-- ==== Sys2Proof/Config.lean ====
section
/-! DEFINITION. The two parameters the spec leaves OPEN (spec/00_scope.md R10; 92_eei_decisions.md D2, D34), each a
constant without a body, so that whatever is proved holds for every value the spec allows (log entries 6 and 7). -/

namespace Sys2Proof

/-- Which 64-byte block of the bus holds the register window. -/
opaque Config.xteaBaseBlock : Nat

/-- XTEA_BASE, the bus address of offset 0 of the register window: any 64-byte-aligned address (R10). -/
def Config.xteaBase : Nat := 64 * Config.xteaBaseBlock

/-- The offset a bus address has from XTEA_BASE: what the platform's address decoder hands to the engine (R80). An
access below the window has a negative one. -/
def Config.offsetOf (address : Nat) : Int := (address : Int) - Config.xteaBase

/-- One less than CLK_PER_STEP. -/
opaque Config.clkPerStepPred : Nat

/-- CLK_PER_STEP, the clock periods one engine step takes: at least 1; no rule depends on it (R10, R331). -/
def Config.clkPerStep : Nat := Config.clkPerStepPred + 1

/-- The clock periods a block command takes from acceptance to DONE = 1: `actCycles` cycle steps and one completion
step (R331, given for information). -/
def Config.blockCommandClocks (actCycles : Nat) : Nat := (actCycles + 1) * Config.clkPerStep

end Sys2Proof
end

