-- ==== Sys2Proof/Word.lean ====
section
/-! DEFINITION. The two bit-vector widths of XTEA-CORE's data (spec/00_scope.md R8, R12: u32 words; spec/10_state.md
R39: u8 cells). Arithmetic on them is `BitVec`'s own: `+`, `-` and `*` wrap modulo 2^32 (R13), `<<<` and `>>>` are
logical shifts (R14), `++` puts its left operand in the high bits (R15). -/

namespace Sys2Proof

/-- A u32: a key, block, sum or register word (R8 WORD_W). -/
abbrev Word := BitVec 32

/-- A u8: a cell of the byte buffer or one byte of a serialized block. -/
abbrev Byte := BitVec 8

end Sys2Proof
end

