-- ==== Sys2Proof/Syntax.lean ====
section
/-! DEFINITION. The instructions of XTEA-CORE, one constructor per row of spec/opcode_table.json, and the two encoded
forms they come in (spec/30_encoding.md §1): a command word, and a bus operation, which is one host access to the
register window. -/

namespace Sys2Proof

/-- One constructor per row of the opcode table, in the table's order.

The first ten are the rows of format CMD: each stands for the host writing that command word to CMD (R119). They name
no operands (R114), but for the words that R112 and R116 call illegal, which carry the bits that make them so.
The other thirty-two are the rows of format BUSOP; a write carries its 32-bit data value (R113, R115). -/
inductive Instr where
  /-- `INIT_KB`, command word 0x00000001 (R142). -/
  | initKb
  /-- `INIT_KW`, command word 0x00000002 (R143). -/
  | initKw
  /-- `ENC`, command word 0x00000003 (R201). -/
  | enc
  /-- `DEC`, command word 0x00000004 (R202). -/
  | dec
  /-- `ENCW`, command word 0x00000005 (R203). -/
  | encw
  /-- `DECW`, command word 0x00000006 (R204). -/
  | decw
  /-- `CLRBUF`, command word 0x00000007 (R243). -/
  | clrbuf
  /-- `(illegal) OP=0` with RSV = 0: the command word 0x00000000 (R116, R244). A word with OP = 0 and RSV ≠ 0 is
  `illegalRsv` (log entry 9). -/
  | illegalOp0
  /-- `(illegal) OP=8..F` with RSV = 0: the command word 8 + `op` (R116, R244). -/
  | illegalOp8F (op : BitVec 3)
  /-- `(illegal) RSV!=0`: a command word with a bit of 31:4 set, whatever its OP (R112, R244). -/
  | illegalRsv (op : BitVec 4) (rsv : BitVec 28)
  /-- `RD CMD` (R245). -/
  | rdCmd
  /-- `WR CMD, c` (R240). -/
  | wrCmd (c : Word)
  /-- `RD STATUS` (R246). -/
  | rdStatus
  /-- `WR STATUS, v` (R247). -/
  | wrStatus (v : Word)
  /-- `RD CONFIG` (R248). -/
  | rdConfig
  /-- `WR CONFIG, v` (R249). -/
  | wrConfig (v : Word)
  /-- `RD CYCLES_IN` (R250). -/
  | rdCyclesIn
  /-- `WR CYCLES_IN, v` (R251). -/
  | wrCyclesIn (v : Word)
  /-- `RD BYTE_IN` (R253). -/
  | rdByteIn
  /-- `WR BYTE_IN, v` (R252). -/
  | wrByteIn (v : Word)
  /-- `RD WORD_IN` (R255). -/
  | rdWordIn
  /-- `WR WORD_IN, v` (R254). -/
  | wrWordIn (v : Word)
  /-- `RD OUT_W0` (R256). -/
  | rdOutW0
  /-- `RD OUT_W1` (R256). -/
  | rdOutW1
  /-- `RD OUT_B0` (R257). -/
  | rdOutB0
  /-- `RD OUT_B1` (R257). -/
  | rdOutB1
  /-- `RD ACT_CYCLES` (R258). -/
  | rdActCycles
  /-- `RD INFO` (R259). -/
  | rdInfo
  /-- `WR OUT_W0, v` (R261). -/
  | wrOutW0 (v : Word)
  /-- `WR OUT_W1, v` (R261). -/
  | wrOutW1 (v : Word)
  /-- `WR OUT_B0, v` (R261). -/
  | wrOutB0 (v : Word)
  /-- `WR OUT_B1, v` (R261). -/
  | wrOutB1 (v : Word)
  /-- `WR ACT_CYCLES, v` (R261). -/
  | wrActCycles (v : Word)
  /-- `WR INFO, v` (R261). -/
  | wrInfo (v : Word)
  /-- A read of the reserved offset 0x30 (R262). -/
  | rdRsvd30
  /-- A write of the reserved offset 0x30 (R262). -/
  | wrRsvd30 (v : Word)
  /-- A read of the reserved offset 0x34 (R262). -/
  | rdRsvd34
  /-- A write of the reserved offset 0x34 (R262). -/
  | wrRsvd34 (v : Word)
  /-- A read of the reserved offset 0x38 (R262). -/
  | rdRsvd38
  /-- A write of the reserved offset 0x38 (R262). -/
  | wrRsvd38 (v : Word)
  /-- A read of the reserved offset 0x3C (R262). -/
  | rdRsvd3C
  /-- A write of the reserved offset 0x3C (R262). -/
  | wrRsvd3C (v : Word)
  deriving DecidableEq, Repr

/-- The width of a bus access. Only `word`, 32 bits, is defined; the others are the forms R90 names and refuses. -/
inductive AccessSize where
  | byte | half | word | double | burst
  deriving DecidableEq, Repr

/-- The direction of a bus access, with the value a write carries (R17, R113). -/
inductive BusOp where
  | read
  | write (data : Word)
  deriving DecidableEq, Repr

/-- One host access as it arrives on the bus: any width, any place. `offset` is the bus address less XTEA_BASE (R10,
R80), an integer so that every bus address has one; the accesses the spec defines are a small part of these (R90). -/
structure BusAccess where
  size : AccessSize
  offset : Int
  op : BusOp
  deriving DecidableEq, Repr

/-- The two encoded forms (30_encoding.md §1): a 32-bit command word, and a bus operation. -/
inductive Code where
  | command (word : Word)
  | bus (access : BusAccess)
  deriving DecidableEq, Repr

end Sys2Proof
end

