-- ==== Sys2Proof/WellFormed.lean ====
section
/-! DEFINITION. Which instruction terms stand for a row of the opcode table, and which bus accesses the spec defines. -/

namespace Sys2Proof

/-- The one condition on a term: an `illegalRsv` has a reserved bit set (R112), or it would be a second name for a word
that another row covers. Every other term is the row it names. -/
def Instr.wf : Instr → Bool
  | .illegalRsv _ rsv => decide (rsv ≠ 0#28)
  | .illegalOp8F _ => true
  | .initKb | .initKw | .enc | .dec | .encw | .decw | .clrbuf | .illegalOp0 => true
  | .rdCmd | .rdStatus | .rdConfig | .rdCyclesIn | .rdByteIn | .rdWordIn => true
  | .rdOutW0 | .rdOutW1 | .rdOutB0 | .rdOutB1 | .rdActCycles | .rdInfo => true
  | .rdRsvd30 | .rdRsvd34 | .rdRsvd38 | .rdRsvd3C => true
  | .wrCmd _ | .wrStatus _ | .wrConfig _ | .wrCyclesIn _ | .wrByteIn _ | .wrWordIn _ => true
  | .wrOutW0 _ | .wrOutW1 _ | .wrOutB0 _ | .wrOutB1 _ | .wrActCycles _ | .wrInfo _ => true
  | .wrRsvd30 _ | .wrRsvd34 _ | .wrRsvd38 _ | .wrRsvd3C _ => true

/-- The accesses the spec defines: 32 bits wide, at an offset inside the 64-byte window that is a multiple of 4 (R90,
R113). -/
def BusAccess.defined (a : BusAccess) : Bool :=
  decide (a.size = .word ∧ 0 ≤ a.offset ∧ a.offset < 64 ∧ a.offset % 4 = 0)

end Sys2Proof
end

