-- ==== Sys2Proof/Decode.lean ====
section
/-! DEFINITION. The decoder and the encoder, from spec/30_encoding.md. A decoder first decodes the bus operation; only
a write to offset 0x00 carries a command word, which is then decoded as a command (§1). -/

namespace Sys2Proof

/-- Why an access is no bus operation (R90). Each is refused by name. -/
inductive AccessError where
  /-- The access is 8, 16 or 64 bits wide, or a burst. -/
  | accessWidth
  /-- The offset is not inside the 64-byte window. -/
  | outsideWindow
  /-- The offset is inside the window and no multiple of 4. -/
  | misalignedOffset
  deriving DecidableEq, Repr

/-- OP, bits 3:0 of a command word (R110). -/
def opField (c : Word) : BitVec 4 := c.extractLsb' 0 4

/-- RSV, bits 31:4 of a command word (R110). -/
def rsvField (c : Word) : BitVec 28 := c.extractLsb' 4 28

/-- The command map (R111): every 32-bit word is a command or one of the illegal words (R112, R116). RSV is looked at
before OP, as acceptance does (R241). -/
def decodeCommand (c : Word) : Instr :=
  if rsvField c ≠ 0#28 then .illegalRsv (opField c) (rsvField c)
  else
    match (opField c).toNat with
    | 0x0 => .illegalOp0
    | 0x1 => .initKb
    | 0x2 => .initKw
    | 0x3 => .enc
    | 0x4 => .dec
    | 0x5 => .encw
    | 0x6 => .decw
    | 0x7 => .clrbuf
    | _ => .illegalOp8F (c.extractLsb' 0 3)

/-- The 7-bit BUSOP pattern W ++ OFF (R113): bit 6 is W, 1 for a write, and bits 5:0 are the offset. -/
def busPattern (write : Bool) (off : BitVec 6) : BitVec 7 := BitVec.ofBool write ++ off

/-- The thirty-two bus operations (R113, the BUSOP rows of the opcode table): `p` is the pattern, `d` the data of a
write; a read carries none, and no read constructor has a place for one. Only patterns with OFF[1:0] = 00 are defined. -/
def decodeBusop (p : BitVec 7) (d : Word) : Except AccessError Instr :=
  match p.toNat with
  | 0x00 => .ok .rdCmd
  | 0x40 => .ok (.wrCmd d)
  | 0x04 => .ok .rdStatus
  | 0x44 => .ok (.wrStatus d)
  | 0x08 => .ok .rdConfig
  | 0x48 => .ok (.wrConfig d)
  | 0x0C => .ok .rdCyclesIn
  | 0x4C => .ok (.wrCyclesIn d)
  | 0x10 => .ok .rdByteIn
  | 0x50 => .ok (.wrByteIn d)
  | 0x14 => .ok .rdWordIn
  | 0x54 => .ok (.wrWordIn d)
  | 0x18 => .ok .rdOutW0
  | 0x1C => .ok .rdOutW1
  | 0x20 => .ok .rdOutB0
  | 0x24 => .ok .rdOutB1
  | 0x28 => .ok .rdActCycles
  | 0x2C => .ok .rdInfo
  | 0x58 => .ok (.wrOutW0 d)
  | 0x5C => .ok (.wrOutW1 d)
  | 0x60 => .ok (.wrOutB0 d)
  | 0x64 => .ok (.wrOutB1 d)
  | 0x68 => .ok (.wrActCycles d)
  | 0x6C => .ok (.wrInfo d)
  | 0x30 => .ok .rdRsvd30
  | 0x70 => .ok (.wrRsvd30 d)
  | 0x34 => .ok .rdRsvd34
  | 0x74 => .ok (.wrRsvd34 d)
  | 0x38 => .ok .rdRsvd38
  | 0x78 => .ok (.wrRsvd38 d)
  | 0x3C => .ok .rdRsvd3C
  | 0x7C => .ok (.wrRsvd3C d)
  | _ => .error .misalignedOffset

/-- The bus operation an access is, or why it is none (R90). Where an access breaks more than one condition, the width
is named first, then the window (log entry 5). -/
def decodeAccess (a : BusAccess) : Except AccessError Instr :=
  if a.size ≠ .word then .error .accessWidth
  else if a.offset < 0 ∨ 64 ≤ a.offset then .error .outsideWindow
  else
    match a.op with
    | .read => decodeBusop (busPattern false (BitVec.ofInt 6 a.offset)) 0#32
    | .write d => decodeBusop (busPattern true (BitVec.ofInt 6 a.offset)) d

/-- The decoder over both encoded forms: total, and rejecting by name. -/
def decode : Code → Except AccessError Instr
  | .command w => .ok (decodeCommand w)
  | .bus a => decodeAccess a

/-- A 32-bit read at an offset of the window. -/
def readAt (off : Int) : Code := .bus { size := .word, offset := off, op := .read }

/-- A 32-bit write at an offset of the window. -/
def writeAt (off : Int) (v : Word) : Code := .bus { size := .word, offset := off, op := .write v }

/-- The encoder: the command word of a command (R111, R112, R116), and the access of a bus operation at its register's
offset (R81, R113). -/
def encode : Instr → Code
  | .initKb => .command 0x00000001#32
  | .initKw => .command 0x00000002#32
  | .enc => .command 0x00000003#32
  | .dec => .command 0x00000004#32
  | .encw => .command 0x00000005#32
  | .decw => .command 0x00000006#32
  | .clrbuf => .command 0x00000007#32
  | .illegalOp0 => .command 0x00000000#32
  | .illegalOp8F op => .command (0#28 ++ (1#1 ++ op))
  | .illegalRsv op rsv => .command (rsv ++ op)
  | .rdCmd => readAt 0x00
  | .wrCmd v => writeAt 0x00 v
  | .rdStatus => readAt 0x04
  | .wrStatus v => writeAt 0x04 v
  | .rdConfig => readAt 0x08
  | .wrConfig v => writeAt 0x08 v
  | .rdCyclesIn => readAt 0x0C
  | .wrCyclesIn v => writeAt 0x0C v
  | .rdByteIn => readAt 0x10
  | .wrByteIn v => writeAt 0x10 v
  | .rdWordIn => readAt 0x14
  | .wrWordIn v => writeAt 0x14 v
  | .rdOutW0 => readAt 0x18
  | .rdOutW1 => readAt 0x1C
  | .rdOutB0 => readAt 0x20
  | .rdOutB1 => readAt 0x24
  | .rdActCycles => readAt 0x28
  | .rdInfo => readAt 0x2C
  | .wrOutW0 v => writeAt 0x18 v
  | .wrOutW1 v => writeAt 0x1C v
  | .wrOutB0 v => writeAt 0x20 v
  | .wrOutB1 v => writeAt 0x24 v
  | .wrActCycles v => writeAt 0x28 v
  | .wrInfo v => writeAt 0x2C v
  | .rdRsvd30 => readAt 0x30
  | .wrRsvd30 v => writeAt 0x30 v
  | .rdRsvd34 => readAt 0x34
  | .wrRsvd34 v => writeAt 0x34 v
  | .rdRsvd38 => readAt 0x38
  | .wrRsvd38 v => writeAt 0x38 v
  | .rdRsvd3C => readAt 0x3C
  | .wrRsvd3C v => writeAt 0x3C v

/-- The access by which an encoded form reaches the engine: a command word is written to CMD (R110, R119). -/
def Code.access : Code → BusAccess
  | .command w => { size := .word, offset := 0, op := .write w }
  | .bus a => a

/-- The access a host makes at an absolute bus address, as the engine sees it (R10, R80). -/
def accessAt (size : AccessSize) (address : Nat) (op : BusOp) : BusAccess :=
  { size := size, offset := Config.offsetOf address, op := op }

/-- The one bus access by which the host issues an instruction (R118). -/
def issue (i : Instr) : BusAccess := (encode i).access

/-- The encoded form that the bits of an opcode-table row stand for (log entry 16). A row of 32 bits is a command word.
Any other row is a bus operation: the pattern in bits 6:0 of the first byte and a write's data in the four bytes above
it. Bit 7 of the first byte is no part of a pattern; where it is set the offset lies beyond the window. -/
def tableCode (nbits w : Nat) : Code :=
  if nbits = 32 then .command (BitVec.ofNat 32 w)
  else
    .bus
      { size := .word
        offset := ((w % 64 + 64 * (w / 128 % 2) : Nat) : Int)
        op := if w / 64 % 2 = 1 then .write (BitVec.ofNat 32 (w / 256)) else .read }

/-- The instruction the decoder reads from an opcode-table row's bits; none where it refuses them. -/
def decodeTableWord (nbits w : Nat) : Option Instr :=
  match decode (tableCode nbits w) with
  | .ok i => some i
  | .error _ => none

end Sys2Proof
end

