-- ==== Sys2Proof/Machine/State.lean ====
section
/-! DEFINITION. The state of XTEA-CORE: exactly the record of spec/10_state.md R30, and beside it the two fields that
are the model's own, the turns still to be taken and the values the host has read. Also the reasons a step can stop. -/

namespace Sys2Proof.Machine

/-- ORD, the byte order (R15, R37): big-endian is encoded 0 and little-endian 1. -/
inductive ByteOrder where
  | be | le
  deriving DecidableEq, Repr

/-- DIR, the direction of a block command (R32): encipher is encoded 0 and decipher 1. -/
inductive Direction where
  | encipher | decipher
  deriving DecidableEq, Repr

/-- FSM, the engine state (R34). -/
inductive Fsm where
  | idle | run
  deriving DecidableEq, Repr

/-- The seven error kinds a command can report (R280). -/
inductive CommandError where
  | invalidKeyLength | invalidKeyWords | invalidCycleCount | invalidBlockLength | invalidBlockWords | noKey
  | illegalCommand
  deriving DecidableEq, Repr

/-- One turn of the total order of transitions (R11, R93): a host bus access, a turn of the engine agent, or the reset
event (R320). -/
inductive Turn where
  | access (a : BusAccess)
  | engine
  | reset
  deriving DecidableEq, Repr

/-- The whole state. The fields up to `errcode` are R30's, widths exact. -/
structure State where
  /-- KEY[0..3], the key register file (R35). -/
  key : Vector Word 4
  /-- ACT_CYCLES, the active cycle count (R36). -/
  actCycles : Word
  /-- ACT_ORDER, the active byte order (R37). -/
  actOrder : ByteOrder
  /-- CFG_VALID: a configuration has been installed since the last reset (R38). -/
  cfgValid : Bool
  /-- V0, the first word of the block being transformed (R31). -/
  v0 : Word
  /-- V1, the second word of the block being transformed (R31). -/
  v1 : Word
  /-- SUM, the running sum of DELTA multiples (R32). -/
  sum : Word
  /-- CNT, the number of cycles still to run (R32). -/
  cnt : Word
  /-- DIR, the direction of the accepted block command (R32). -/
  dir : Direction
  /-- FSM, whether a block command is running (R34). -/
  fsm : Fsm
  /-- BBUF[0..15], the byte buffer (R39). -/
  bbuf : Vector Byte 16
  /-- BCOUNT, the bytes pushed since the byte buffer was last emptied, saturating at 255 (R39). -/
  bcount : BitVec 8
  /-- WBUF[0..3], the word buffer (R40). -/
  wbuf : Vector Word 4
  /-- WCOUNT, the words pushed since the word buffer was last emptied, saturating at 255 (R40). -/
  wcount : BitVec 8
  /-- OUT_W0, the first result word of the last completed block command (R49). -/
  outW0 : Word
  /-- OUT_W1, the second result word of the last completed block command (R49). -/
  outW1 : Word
  /-- OUT_B0, the first four serialized result bytes (R50). -/
  outB0 : Word
  /-- OUT_B1, the last four serialized result bytes (R50). -/
  outB1 : Word
  /-- CMD_LAST, the last command word accepted (R41). -/
  cmdLast : Word
  /-- CONFIG_ORDER, the byte order the next INIT installs (R47). -/
  configOrder : ByteOrder
  /-- CONFIG_IRQ_EN, the enable of the IRQ output (R47). -/
  configIrqEn : Bool
  /-- CYCLES_IN, the cycle count the next INIT checks and installs (R48). -/
  cyclesIn : Word
  /-- STATUS.DONE (R44). -/
  done : Bool
  /-- STATUS.ERR (R45). -/
  err : Bool
  /-- STATUS.OVR (R46). -/
  ovr : Bool
  /-- STATUS.ERRCODE (R45). -/
  errcode : BitVec 4
  /-- THE MODEL'S OWN (log entry 1): the turns still to be taken, the next one first. -/
  pending : List Turn
  /-- THE MODEL'S OWN (log entry 4): the values the host's reads have returned, the newest first. -/
  readLog : List Word
  deriving DecidableEq, Repr

/-- The machine right after reset (R56). The values R56 marks as not observable are the zeros it lists (log entry
10). -/
def State.reset : State where
  key := #v[0x00000000#32, 0x00000000#32, 0x00000000#32, 0x00000000#32]
  actCycles := 0x00000000#32
  actOrder := .be
  cfgValid := false
  v0 := 0x00000000#32
  v1 := 0x00000000#32
  sum := 0x00000000#32
  cnt := 0x00000000#32
  dir := .encipher
  fsm := .idle
  bbuf := #v[0x00#8, 0x00#8, 0x00#8, 0x00#8, 0x00#8, 0x00#8, 0x00#8, 0x00#8,
    0x00#8, 0x00#8, 0x00#8, 0x00#8, 0x00#8, 0x00#8, 0x00#8, 0x00#8]
  bcount := 0#8
  wbuf := #v[0x00000000#32, 0x00000000#32, 0x00000000#32, 0x00000000#32]
  wcount := 0#8
  outW0 := 0x00000000#32
  outW1 := 0x00000000#32
  outB0 := 0x00000000#32
  outB1 := 0x00000000#32
  cmdLast := 0x00000000#32
  configOrder := .be
  configIrqEn := false
  cyclesIn := 0x00000020#32
  done := false
  err := false
  ovr := false
  errcode := 0#4
  pending := []
  readLog := []

/-- The reasons the machine could stop with a fault: there is none. The engine has no faulting operation (R293, R299)
and no stuck state (R333), and no access of its window faults (spec/93_implementation_defined.md, after I14; log entry
15). -/
inductive Fault where
  deriving DecidableEq, Repr

/-- The reasons a step has no meaning. -/
inductive Refusal where
  /-- An instruction without a meaning yet. `exec` raises it, and in this model no arm does. Safe. -/
  | notModelled (mnemonic : String)
  /-- A bus access that R90 gives no meaning: `step` raises it when the next turn is such an access, and the run has
  then gone wrong (I1). Safe: nothing can be proved of what follows. -/
  | undefinedAccess (reason : AccessError)
  deriving DecidableEq, Repr

/-- What one transition answers. -/
abbrev Result := Host.Outcome State Fault Refusal

end Sys2Proof.Machine
end

