-- ==== Sys2Proof/Machine/Operands.lean ====
section
/-! DEFINITION. How bytes and words become one another, and how a command reads its operands: the endianness mux and
the word serializer (spec/20_memory.md §2), the subkey multiplexers (spec/40_key_schedule.md §5). -/

namespace Sys2Proof.Machine

/-- The encoding of a byte order as one bit (R15): 0 is big-endian, 1 little-endian. -/
def ByteOrder.bit : ByteOrder → BitVec 1
  | .be => 0#1
  | .le => 1#1

/-- The byte order that a bit encodes (R15). -/
def ByteOrder.ofBit (b : Bool) : ByteOrder := if b then .le else .be

/-- `word_BE`: the first byte is the most significant (R84, log entry 11). -/
def wordBE (b0 b1 b2 b3 : Byte) : Word := b0 ++ b1 ++ b2 ++ b3

/-- `word_LE`: the first byte is the least significant (R84, log entry 11). -/
def wordLE (b0 b1 b2 b3 : Byte) : Word := b3 ++ b2 ++ b1 ++ b0

/-- `word(ORD, b0, b1, b2, b3)`: four bytes in sequence order as a word (R84). -/
def wordOf (ord : ByteOrder) (b0 b1 b2 b3 : Byte) : Word :=
  match ord with
  | .be => wordBE b0 b1 b2 b3
  | .le => wordLE b0 b1 b2 b3

/-- `bytes(ORD, w)`: the four bytes of a word in sequence order (R84). -/
def bytesOf (ord : ByteOrder) (w : Word) : Vector Byte 4 :=
  match ord with
  | .be => #v[w.extractLsb' 24 8, w.extractLsb' 16 8, w.extractLsb' 8 8, w.extractLsb' 0 8]
  | .le => #v[w.extractLsb' 0 8, w.extractLsb' 8 8, w.extractLsb' 16 8, w.extractLsb' 24 8]

/-- Key splitting: bytes 4i to 4i+3 become key word i (R85). -/
def splitKey (ord : ByteOrder) (k : Vector Byte 16) : Vector Word 4 :=
  #v[wordOf ord k[0] k[1] k[2] k[3], wordOf ord k[4] k[5] k[6] k[7],
    wordOf ord k[8] k[9] k[10] k[11], wordOf ord k[12] k[13] k[14] k[15]]

/-- The first word of a block of bytes p[0..7], read from the byte buffer's first cells (R86). -/
def blockWord0 (ord : ByteOrder) (p : Vector Byte 16) : Word := wordOf ord p[0] p[1] p[2] p[3]

/-- The second word of a block of bytes p[0..7], read from the byte buffer's first cells (R86). -/
def blockWord1 (ord : ByteOrder) (p : Vector Byte 16) : Word := wordOf ord p[4] p[5] p[6] p[7]

/-- Block serialization: S[0..3] are the bytes of the first word, S[4..7] those of the second (R87). -/
def serialize (ord : ByteOrder) (w0 w1 : Word) : Vector Byte 8 := bytesOf ord w0 ++ bytesOf ord w1

/-- OUT_B0's packing: byte S[i] at bits 8i+7 to 8i (R88). -/
def packLow (s : Vector Byte 8) : Word := s[3] ++ s[2] ++ s[1] ++ s[0]

/-- OUT_B1's packing: byte S[4+i] at bits 8i+7 to 8i (R88). -/
def packHigh (s : Vector Byte 8) : Word := s[7] ++ s[6] ++ s[5] ++ s[4]

/-- The first subkey multiplexer: KEY[s[1:0]] (R151). -/
def subkeyA (key : Vector Word 4) (s : Word) : Word := key[(s.extractLsb' 0 2).toNat]'(s.extractLsb' 0 2).isLt

/-- The second subkey multiplexer: KEY[s[12:11]] (R152). -/
def subkeyB (key : Vector Word 4) (s : Word) : Word := key[(s.extractLsb' 11 2).toNat]'(s.extractLsb' 11 2).isLt

end Sys2Proof.Machine
end

