-- ==== Sys2Proof/Machine/Flags.lean ====
section
/-! DEFINITION. The status fields, and everything computed from them: the STATUS and CONFIG words, BUSY, the IRQ
output, the INFO constant, the error codes, the cycle-count test. -/

namespace Sys2Proof.Machine

/-- The error codes (R280). -/
def CommandError.code : CommandError → BitVec 4
  | .invalidKeyLength => 1#4
  | .invalidKeyWords => 2#4
  | .invalidCycleCount => 3#4
  | .invalidBlockLength => 4#4
  | .invalidBlockWords => 5#4
  | .noKey => 6#4
  | .illegalCommand => 7#4

/-- STATUS.BUSY, which is not stored: 1 iff FSM = RUN (R43). -/
def busy (s : State) : Bool := decide (s.fsm = .run)

/-- The IRQ output, a level: DONE AND CONFIG_IRQ_EN (R52, R290). -/
def irq (s : State) : Bool := s.done && s.configIrqEn

/-- The word a read of STATUS returns, all of it from one state (R42, R91, R246). -/
def statusWord (s : State) : Word :=
  (s.wcount.setWidth 32 <<< 24) ||| (s.bcount.setWidth 32 <<< 16) |||
    (s.actOrder.bit.setWidth 32 <<< 10) ||| ((BitVec.ofBool s.cfgValid).setWidth 32 <<< 9) |||
    ((BitVec.ofBool s.ovr).setWidth 32 <<< 8) ||| (s.errcode.setWidth 32 <<< 4) |||
    ((BitVec.ofBool s.err).setWidth 32 <<< 2) ||| ((BitVec.ofBool s.done).setWidth 32 <<< 1) |||
    (BitVec.ofBool (busy s)).setWidth 32

/-- The word a read of CONFIG returns: IRQ_EN in bit 1, ORDER in bit 0, zeros above (R47, R248). -/
def configWord (s : State) : Word := (BitVec.ofBool s.configIrqEn ++ s.configOrder.bit).setWidth 32

/-- The constant a read of INFO returns: keySize 16 in bits 7:0, blockSize 8 in bits 15:8 (R51, R259). -/
def infoWord : Word := 0x00000810#32

/-- A cycle count is legal iff its bit 31 is 0 and it is not 0 (R146). -/
def legalCycles (c : Word) : Bool := !c.getLsbD 31 && c != 0#32

/-- The W1C bits of STATUS: a 1 in bit 1 clears DONE, a 1 in bit 8 clears OVR, and no other bit acts (R247). -/
def clearStatus (v : Word) (s : State) : State :=
  { s with done := s.done && !v.getLsbD 1, ovr := s.ovr && !v.getLsbD 8 }

end Sys2Proof.Machine
end

