-- ==== Sys2Proof/Machine/Ops.lean ====
section
/-! DEFINITION. The named operations that the meanings share. Each is one update of the record. Within a transition
the spec's writes take effect together and its reads see the state before (R16); where a meaning applies these
operations one after another, no later one reads a field that an earlier one wrote, so the two agree (log entry 12). -/

namespace Sys2Proof.Machine

/-- A bus read returns `v` to the host and does nothing else: no read has a side effect (R92). -/
def answerRead (v : Word) (s : State) : State := { s with readLog := v :: s.readLog }

/-- What the acceptance of any command word does first: CMD_LAST takes the word and DONE is lowered (R241). -/
def beginCommand (c : Word) (s : State) : State := { s with cmdLast := c, done := false }

/-- THE MACHINE'S ONE EXCEPTION: `raise Err(code)` ends the command being accepted (R285). It is a report, not a trap.
There is no vector, no saved register and no change of mode (R287), and so no return from it: the report stays until
the next accepted command overwrites it, or reset (R288). -/
def raiseErr (e : CommandError) (s : State) : State := { s with err := true, errcode := e.code, done := true }

/-- The immediate success of a command: DONE = 1, ERR = 0, ERRCODE = 0 (R141, R241, R243). -/
def succeed (s : State) : State := { s with err := false, errcode := 0#4, done := true }

/-- A command word written while a block command runs is dropped, and OVR records it (R242). -/
def dropCommand (s : State) : State := { s with ovr := true }

/-- The host writes the command word `c`, whose effect once accepted is `body`: dropped while FSM = RUN, accepted in
this same transition otherwise (R240, R241). -/
def issueCommand (c : Word) (body : State → State) (s : State) : State :=
  if s.fsm = .run then dropCommand s else body (beginCommand c s)

/-- A consuming command empties the byte buffer, pass or fail; the cells keep their values (R39, R327, log entry
13). -/
def consumeBytes (s : State) : State := { s with bcount := 0#8 }

/-- A consuming command empties the word buffer, pass or fail; the cells keep their values (R40, R327, log entry
13). -/
def consumeWords (s : State) : State := { s with wcount := 0#8 }

/-- `Install(k0, k1, k2, k3, c, ord)`: the whole configuration in one transition (R141). -/
def install (k : Vector Word 4) (c : Word) (ord : ByteOrder) (s : State) : State :=
  { s with
    key := k, actCycles := c, actOrder := ord, cfgValid := true, err := false, errcode := 0#4, done := true }

/-- A push of one byte: stored while there is a cell for it, and counted up to 255 (R252). -/
def pushByte (b : Byte) (s : State) : State :=
  { s with
    bbuf := if h : s.bcount.toNat < 16 then s.bbuf.set s.bcount.toNat b h else s.bbuf
    bcount := if s.bcount.toNat < 255 then s.bcount + 1#8 else s.bcount }

/-- A push of one word: stored while there is a cell for it, and counted up to 255 (R254). -/
def pushWord (w : Word) (s : State) : State :=
  { s with
    wbuf := if h : s.wcount.toNat < 4 then s.wbuf.set s.wcount.toNat w h else s.wbuf
    wcount := if s.wcount.toNat < 255 then s.wcount + 1#8 else s.wcount }

/-- `WriteOutputs(v0, v1)`: both forms of the result, serialized in ACT_ORDER (R206). -/
def writeOutputs (w0 w1 : Word) (s : State) : State :=
  { s with
    outW0 := w0
    outW1 := w1
    outB0 := packLow (serialize s.actOrder w0 w1)
    outB1 := packHigh (serialize s.actOrder w0 w1) }

/-- The reset event: every piece of the machine's state takes the value of R56, in whatever state it comes (R320). The
turns still to come and the values already read are the host's and stay (log entry 14). -/
def resetEngine (s : State) : State := { State.reset with pending := s.pending, readLog := s.readLog }

/-- The turn at the head of the list is taken off it. -/
def popTurn (s : State) : State := { s with pending := s.pending.tail }

end Sys2Proof.Machine
end

