-- ==== Sys2Proof/Machine/Feistel.lean ====
section
/-! DEFINITION. The Feistel round processor (spec/41_feistel_engine.md): the pure functions of one cycle and of a whole
transform, the start of a block command, and the two steps of the engine agent. -/

namespace Sys2Proof.Machine

/-- DELTA (R170). -/
def delta : Word := 0x9E3779B9#32

/-- The mixing function F: the XOR first, then the wrapping add; logical shifts (R171). -/
def mix (v : Word) : Word := ((v <<< 4) ^^^ (v >>> 5)) + v

/-- What a cycle works on: the two block words and the sum. -/
structure Datapath where
  v0 : Word
  v1 : Word
  sum : Word
  deriving DecidableEq, Repr

/-- One encipher cycle: half-round 1 with the old sum, then the sum, then half-round 3 with the new one (R172 to
R175). -/
def encCycle (key : Vector Word 4) (d : Datapath) : Datapath :=
  let v0' := d.v0 + (mix d.v1 ^^^ (d.sum + subkeyA key d.sum))
  let sum' := d.sum + delta
  let v1' := d.v1 + (mix v0' ^^^ (sum' + subkeyB key sum'))
  { v0 := v0', v1 := v1', sum := sum' }

/-- One decipher cycle, in the reverse order of the update (R176 to R179). -/
def decCycle (key : Vector Word 4) (d : Datapath) : Datapath :=
  let v1' := d.v1 - (mix d.v0 ^^^ (d.sum + subkeyB key d.sum))
  let sum' := d.sum - delta
  let v0' := d.v0 - (mix v1' ^^^ (sum' + subkeyA key sum'))
  { v0 := v0', v1 := v1', sum := sum' }

/-- `n` encipher cycles (R181). -/
def encCycles (key : Vector Word 4) : Nat → Datapath → Datapath
  | 0, d => d
  | n + 1, d => encCycles key n (encCycle key d)

/-- `n` decipher cycles (R181). -/
def decCycles (key : Vector Word 4) : Nat → Datapath → Datapath
  | 0, d => d
  | n + 1, d => decCycles key n (decCycle key d)

/-- `encipher(K, (v0, v1), n)`: the pure transform, from the sum 0 (R180, R181). -/
def encipher (key : Vector Word 4) (block : Word × Word) (n : Nat) : Word × Word :=
  let d := encCycles key n { v0 := block.1, v1 := block.2, sum := 0#32 }
  (d.v0, d.v1)

/-- `decipher(K, (v0, v1), n)`: the pure transform, from the sum DELTA × n mod 2^32 (R180, R181). -/
def decipher (key : Vector Word 4) (block : Word × Word) (n : Nat) : Word × Word :=
  let d := decCycles key n { v0 := block.1, v1 := block.2, sum := delta * BitVec.ofNat 32 n }
  (d.v0, d.v1)

/-- SUM at the acceptance of a block command (R180, R205). -/
def initialSum (dir : Direction) (cycles : Word) : Word :=
  match dir with
  | .encipher => 0x00000000#32
  | .decipher => delta * cycles

/-- `Start(d, w0, w1)`: a block command that passed its checks loads the datapath and sets FSM to RUN; DONE stays 0
(R205). -/
def startBlock (dir : Direction) (w0 w1 : Word) (s : State) : State :=
  { s with
    v0 := w0, v1 := w1, sum := initialSum dir s.actCycles, cnt := s.actCycles, dir := dir, fsm := .run
    err := false, errcode := 0#4 }

/-- The datapath registers as a cycle takes them. -/
def datapath (s : State) : Datapath := { v0 := s.v0, v1 := s.v1, sum := s.sum }

/-- The cycle that DIR selects. -/
def cycleOf (dir : Direction) (key : Vector Word 4) (d : Datapath) : Datapath :=
  match dir with
  | .encipher => encCycle key d
  | .decipher => decCycle key d

/-- The engine cycle step, enabled iff FSM = RUN and CNT ≠ 0 (R184). -/
def cycleStep (s : State) : State :=
  let d := cycleOf s.dir s.key (datapath s)
  { s with v0 := d.v0, v1 := d.v1, sum := d.sum, cnt := s.cnt - 1#32 }

/-- The engine completion step, enabled iff FSM = RUN and CNT = 0 (R185). The datapath keeps its values (log
entry 17). -/
def completionStep (s : State) : State := { writeOutputs s.v0 s.v1 s with fsm := .idle, done := true }

/-- A turn of the engine agent: the step that is enabled; none is while FSM = IDLE (R184, R185, R186), and
the turn then changes nothing (log entry 3). -/
def engineTurn (s : State) : State :=
  match s.fsm with
  | .idle => s
  | .run => if s.cnt = 0#32 then completionStep s else cycleStep s

end Sys2Proof.Machine
end

