-- ==== Sys2Proof/Machine/BlockCipher.lean ====
section
/-! DEFINITION. The block commands ENC, DEC, ENCW and DECW (spec/42_block_cipher.md). -/

namespace Sys2Proof.Machine

/-- ENC (`dir` = encipher) and DEC (`dir` = decipher) inside acceptance: NoKey before the length, then the block of the
first eight cells in ACT_ORDER (R201, R202, R284). -/
def byteBlockBody (dir : Direction) (s : State) : State :=
  if !s.cfgValid then raiseErr .noKey (consumeBytes s)
  else if s.bcount ≠ 8#8 then raiseErr .invalidBlockLength (consumeBytes s)
  else startBlock dir (blockWord0 s.actOrder s.bbuf) (blockWord1 s.actOrder s.bbuf) (consumeBytes s)

/-- ENCW (`dir` = encipher) and DECW (`dir` = decipher) inside acceptance: the first two words as pushed, no
byte-order step (R203, R204, R284). -/
def wordBlockBody (dir : Direction) (s : State) : State :=
  if !s.cfgValid then raiseErr .noKey (consumeWords s)
  else if s.wcount ≠ 2#8 then raiseErr .invalidBlockWords (consumeWords s)
  else startBlock dir s.wbuf[0] s.wbuf[1] (consumeWords s)

/-- `ENC` (R201): the command word 0x00000003 written to CMD. -/
def execEnc (s : State) : Result := .next (issueCommand 0x00000003#32 (byteBlockBody .encipher) s)

/-- `DEC` (R202): the command word 0x00000004 written to CMD. -/
def execDec (s : State) : Result := .next (issueCommand 0x00000004#32 (byteBlockBody .decipher) s)

/-- `ENCW` (R203): the command word 0x00000005 written to CMD. -/
def execEncw (s : State) : Result := .next (issueCommand 0x00000005#32 (wordBlockBody .encipher) s)

/-- `DECW` (R204): the command word 0x00000006 written to CMD. -/
def execDecw (s : State) : Result := .next (issueCommand 0x00000006#32 (wordBlockBody .decipher) s)

end Sys2Proof.Machine
end

