-- ==== Sys2Proof/Machine/KeySchedule.lean ====
section
/-! DEFINITION. The key schedule commands INIT_KB and INIT_KW (spec/40_key_schedule.md). -/

namespace Sys2Proof.Machine

/-- INIT_KB inside acceptance: the key from the byte buffer in CONFIG_ORDER; the length is checked before the cycle
count, and a failure leaves the active configuration (R142, R144, R146, R147). -/
def initKbBody (s : State) : State :=
  if s.bcount ≠ 16#8 then raiseErr .invalidKeyLength (consumeBytes s)
  else if !legalCycles s.cyclesIn then raiseErr .invalidCycleCount (consumeBytes s)
  else install (splitKey s.configOrder s.bbuf) s.cyclesIn s.configOrder (consumeBytes s)

/-- INIT_KW inside acceptance: the key words as pushed, whatever CONFIG_ORDER is (R143, R145, R148). -/
def initKwBody (s : State) : State :=
  if s.wcount ≠ 4#8 then raiseErr .invalidKeyWords (consumeWords s)
  else if !legalCycles s.cyclesIn then raiseErr .invalidCycleCount (consumeWords s)
  else install s.wbuf s.cyclesIn s.configOrder (consumeWords s)

/-- `INIT_KB` (R142): the command word 0x00000001 written to CMD. -/
def execInitKb (s : State) : Result := .next (issueCommand 0x00000001#32 initKbBody s)

/-- `INIT_KW` (R143): the command word 0x00000002 written to CMD. -/
def execInitKw (s : State) : Result := .next (issueCommand 0x00000002#32 initKwBody s)

end Sys2Proof.Machine
end

