-- ==== Sys2Proof/Machine/HostInterface.lean ====
section
/-! DEFINITION. The host interface (spec/43_host_interface.md): CLRBUF, the illegal command words, the command dispatch
behind `WR CMD`, and every read and write of every register. -/

namespace Sys2Proof.Machine

/-- CLRBUF inside acceptance: both buffers are emptied (R243). -/
def clrbufBody (s : State) : State := succeed (consumeWords (consumeBytes s))

/-- `CLRBUF` (R243): the command word 0x00000007 written to CMD. -/
def execClrbuf (s : State) : Result := .next (issueCommand 0x00000007#32 clrbufBody s)

/-- `(illegal) OP=0` (R244): the command word 0x00000000 written to CMD. -/
def execIllegalOp0 (s : State) : Result := .next (issueCommand 0x00000000#32 (raiseErr .illegalCommand) s)

/-- `(illegal) OP=8..F` (R244): the command word 8 + `op` written to CMD. -/
def execIllegalOp8F (op : BitVec 3) (s : State) : Result :=
  .next (issueCommand (0#28 ++ (1#1 ++ op)) (raiseErr .illegalCommand) s)

/-- `(illegal) RSV!=0` (R112, R244): the command word RSV ++ OP written to CMD. -/
def execIllegalRsv (op : BitVec 4) (rsv : BitVec 28) (s : State) : Result :=
  .next (issueCommand (rsv ++ op) (raiseErr .illegalCommand) s)

/-- `Accept(c)`: the acceptance of a command word while FSM = IDLE (R241). -/
def accept (c : Word) (s : State) : State :=
  if c.extractLsb' 4 28 ≠ 0#28 then raiseErr .illegalCommand (beginCommand c s)
  else
    match (c.extractLsb' 0 4).toNat with
    | 0x1 => initKbBody (beginCommand c s)
    | 0x2 => initKwBody (beginCommand c s)
    | 0x3 => byteBlockBody .encipher (beginCommand c s)
    | 0x4 => byteBlockBody .decipher (beginCommand c s)
    | 0x5 => wordBlockBody .encipher (beginCommand c s)
    | 0x6 => wordBlockBody .decipher (beginCommand c s)
    | 0x7 => clrbufBody (beginCommand c s)
    | _ => raiseErr .illegalCommand (beginCommand c s)

/-- `RD CMD` returns CMD_LAST (R245). -/
def execRdCmd (s : State) : Result := .next (answerRead s.cmdLast s)

/-- `WR CMD, c` (R240): dropped while FSM = RUN (R242), accepted otherwise (R241). -/
def execWrCmd (c : Word) (s : State) : Result := .next (if s.fsm = .run then dropCommand s else accept c s)

/-- `RD STATUS` (R246). -/
def execRdStatus (s : State) : Result := .next (answerRead (statusWord s) s)

/-- `WR STATUS, v` clears the W1C bits (R247). -/
def execWrStatus (v : Word) (s : State) : Result := .next (clearStatus v s)

/-- `RD CONFIG` (R248). -/
def execRdConfig (s : State) : Result := .next (answerRead (configWord s) s)

/-- `WR CONFIG, v` (R249): bits 31:2 are ignored. -/
def execWrConfig (v : Word) (s : State) : Result :=
  .next { s with configOrder := .ofBit (v.getLsbD 0), configIrqEn := v.getLsbD 1 }

/-- `RD CYCLES_IN` (R250). -/
def execRdCyclesIn (s : State) : Result := .next (answerRead s.cyclesIn s)

/-- `WR CYCLES_IN, v` (R251): any value is stored. -/
def execWrCyclesIn (v : Word) (s : State) : Result := .next { s with cyclesIn := v }

/-- `RD BYTE_IN` returns 0 (R253). -/
def execRdByteIn (s : State) : Result := .next (answerRead 0x00000000#32 s)

/-- `WR BYTE_IN, v` pushes the byte v[7:0] (R252). -/
def execWrByteIn (v : Word) (s : State) : Result := .next (pushByte (v.extractLsb' 0 8) s)

/-- `RD WORD_IN` returns 0 (R255). -/
def execRdWordIn (s : State) : Result := .next (answerRead 0x00000000#32 s)

/-- `WR WORD_IN, v` pushes the word v (R254). -/
def execWrWordIn (v : Word) (s : State) : Result := .next (pushWord v s)

/-- `RD OUT_W0` (R256). -/
def execRdOutW0 (s : State) : Result := .next (answerRead s.outW0 s)

/-- `RD OUT_W1` (R256). -/
def execRdOutW1 (s : State) : Result := .next (answerRead s.outW1 s)

/-- `RD OUT_B0` (R257). -/
def execRdOutB0 (s : State) : Result := .next (answerRead s.outB0 s)

/-- `RD OUT_B1` (R257). -/
def execRdOutB1 (s : State) : Result := .next (answerRead s.outB1 s)

/-- `RD ACT_CYCLES` (R53, R258). -/
def execRdActCycles (s : State) : Result := .next (answerRead s.actCycles s)

/-- `RD INFO` (R259). -/
def execRdInfo (s : State) : Result := .next (answerRead infoWord s)

/-- `WR OUT_W0, v` changes no state (R261). -/
def execWrOutW0 (_v : Word) (s : State) : Result := .next s

/-- `WR OUT_W1, v` changes no state (R261). -/
def execWrOutW1 (_v : Word) (s : State) : Result := .next s

/-- `WR OUT_B0, v` changes no state (R261). -/
def execWrOutB0 (_v : Word) (s : State) : Result := .next s

/-- `WR OUT_B1, v` changes no state (R261). -/
def execWrOutB1 (_v : Word) (s : State) : Result := .next s

/-- `WR ACT_CYCLES, v` changes no state (R261). -/
def execWrActCycles (_v : Word) (s : State) : Result := .next s

/-- `WR INFO, v` changes no state (R261). -/
def execWrInfo (_v : Word) (s : State) : Result := .next s

/-- A read of the reserved offset 0x30 returns 0 (R82, R262). -/
def execRdRsvd30 (s : State) : Result := .next (answerRead 0x00000000#32 s)

/-- A write of the reserved offset 0x30 changes no state (R82, R262). -/
def execWrRsvd30 (_v : Word) (s : State) : Result := .next s

/-- A read of the reserved offset 0x34 returns 0 (R82, R262). -/
def execRdRsvd34 (s : State) : Result := .next (answerRead 0x00000000#32 s)

/-- A write of the reserved offset 0x34 changes no state (R82, R262). -/
def execWrRsvd34 (_v : Word) (s : State) : Result := .next s

/-- A read of the reserved offset 0x38 returns 0 (R82, R262). -/
def execRdRsvd38 (s : State) : Result := .next (answerRead 0x00000000#32 s)

/-- A write of the reserved offset 0x38 changes no state (R82, R262). -/
def execWrRsvd38 (_v : Word) (s : State) : Result := .next s

/-- A read of the reserved offset 0x3C returns 0 (R82, R262). -/
def execRdRsvd3C (s : State) : Result := .next (answerRead 0x00000000#32 s)

/-- A write of the reserved offset 0x3C changes no state (R82, R262). -/
def execWrRsvd3C (_v : Word) (s : State) : Result := .next s

end Sys2Proof.Machine
end

