-- ==== Sys2Proof/Machine/Dispatch.lean ====
section
/-! DEFINITION. Which meaning each instruction has: one arm per constructor of `Instr`. -/

namespace Sys2Proof.Machine

/-- The transition of one instruction: the bus access that issues it, done by the host (R11, R240 to R262). A command
row is the write of its word to CMD (R119, log entry 8). -/
def exec (i : Instr) (s : State) : Host.Outcome State Fault Refusal :=
  match i with
  | .initKb => Sys2Proof.Machine.execInitKb s
  | .initKw => Sys2Proof.Machine.execInitKw s
  | .enc => Sys2Proof.Machine.execEnc s
  | .dec => Sys2Proof.Machine.execDec s
  | .encw => Sys2Proof.Machine.execEncw s
  | .decw => Sys2Proof.Machine.execDecw s
  | .clrbuf => Sys2Proof.Machine.execClrbuf s
  | .illegalOp0 => Sys2Proof.Machine.execIllegalOp0 s
  | .illegalOp8F op => Sys2Proof.Machine.execIllegalOp8F op s
  | .illegalRsv op rsv => Sys2Proof.Machine.execIllegalRsv op rsv s
  | .rdCmd => Sys2Proof.Machine.execRdCmd s
  | .wrCmd c => Sys2Proof.Machine.execWrCmd c s
  | .rdStatus => Sys2Proof.Machine.execRdStatus s
  | .wrStatus v => Sys2Proof.Machine.execWrStatus v s
  | .rdConfig => Sys2Proof.Machine.execRdConfig s
  | .wrConfig v => Sys2Proof.Machine.execWrConfig v s
  | .rdCyclesIn => Sys2Proof.Machine.execRdCyclesIn s
  | .wrCyclesIn v => Sys2Proof.Machine.execWrCyclesIn v s
  | .rdByteIn => Sys2Proof.Machine.execRdByteIn s
  | .wrByteIn v => Sys2Proof.Machine.execWrByteIn v s
  | .rdWordIn => Sys2Proof.Machine.execRdWordIn s
  | .wrWordIn v => Sys2Proof.Machine.execWrWordIn v s
  | .rdOutW0 => Sys2Proof.Machine.execRdOutW0 s
  | .rdOutW1 => Sys2Proof.Machine.execRdOutW1 s
  | .rdOutB0 => Sys2Proof.Machine.execRdOutB0 s
  | .rdOutB1 => Sys2Proof.Machine.execRdOutB1 s
  | .rdActCycles => Sys2Proof.Machine.execRdActCycles s
  | .rdInfo => Sys2Proof.Machine.execRdInfo s
  | .wrOutW0 v => Sys2Proof.Machine.execWrOutW0 v s
  | .wrOutW1 v => Sys2Proof.Machine.execWrOutW1 v s
  | .wrOutB0 v => Sys2Proof.Machine.execWrOutB0 v s
  | .wrOutB1 v => Sys2Proof.Machine.execWrOutB1 v s
  | .wrActCycles v => Sys2Proof.Machine.execWrActCycles v s
  | .wrInfo v => Sys2Proof.Machine.execWrInfo v s
  | .rdRsvd30 => Sys2Proof.Machine.execRdRsvd30 s
  | .wrRsvd30 v => Sys2Proof.Machine.execWrRsvd30 v s
  | .rdRsvd34 => Sys2Proof.Machine.execRdRsvd34 s
  | .wrRsvd34 v => Sys2Proof.Machine.execWrRsvd34 v s
  | .rdRsvd38 => Sys2Proof.Machine.execRdRsvd38 s
  | .wrRsvd38 v => Sys2Proof.Machine.execWrRsvd38 v s
  | .rdRsvd3C => Sys2Proof.Machine.execRdRsvd3C s
  | .wrRsvd3C v => Sys2Proof.Machine.execWrRsvd3C v s

end Sys2Proof.Machine
end

