-- ==== Sys2Proof/Machine/Step.lean ====
section
/-! DEFINITION. One step of the whole machine: the next turn of the total order of transitions (spec/20_memory.md R93),
and how an instruction is put next. -/

namespace Sys2Proof.Machine

/-- One transition.

The order in which the host's accesses, the engine's steps and resets interleave is left open (R93, I10, I11): it is
data in `pending`, so what is proved of every state is proved of every order. When no turn is listed the host is
silent and the engine takes its steps, which is the spec's fairness (R93, log entry 2).
The outcomes: a next state, or the refusal of an access that R90 leaves without a meaning. No step faults. -/
def step (s : State) : Host.Outcome State Fault Refusal :=
  match s.pending with
  | [] => .next (engineTurn s)
  | .engine :: _ => .next (engineTurn (popTurn s))
  | .reset :: _ => .next (resetEngine (popTurn s))
  | .access a :: _ =>
    match decodeAccess a with
    | .ok i => exec i (popTurn s)
    | .error e => .refused (.undefinedAccess e)

/-- `s` with the access that issues the given opcode-table word put before all other turns: the machine fetches
nothing (R33), and a program comes to run because the host makes its accesses (log entry 18). -/
def State.withFetchWord (s : State) (nbits w : Nat) : State :=
  { s with pending := .access (tableCode nbits w).access :: s.pending }

end Sys2Proof.Machine
end

