-- ==== Sys2Proof/Machine/HostNotation.lean ====
section
/-! DEFINITION. The notation of host programs: the pseudo-instructions and their expansions (spec/30_encoding.md R120),
the operations of the source's interface as host sequences (spec/42_block_cipher.md R200), and how a list of operations
becomes turns. -/

namespace Sys2Proof.Machine

/-- `PUSHB b0, ..., bn`: one write to BYTE_IN a byte (R120). -/
def pushB (bs : List Byte) : List Instr := bs.map fun b => .wrByteIn (b.setWidth 32)

/-- `PUSHW w0, ..., wn`: one write to WORD_IN a word (R120). -/
def pushW (ws : List Word) : List Instr := ws.map .wrWordIn

/-- `WAIT` that takes `n + 1` reads of STATUS (R120). How many it takes depends on the values read. -/
def waitReads (n : Nat) : List Instr := List.replicate (n + 1) .rdStatus

/-- The read that ends a WAIT: bit 0, BUSY, of the value read is 0 (R120). -/
def waitOver (status : Word) : Bool := !status.getLsbD 0

/-- `ACK`: clears DONE and OVR (R120). -/
def acknowledge : Instr := .wrStatus 0x00000102#32

/-- `SETCFG <order>, <irq_en>` (R120). -/
def setCfg (ord : ByteOrder) (irqEn : Bool) : Instr :=
  .wrConfig (((BitVec.ofBool irqEn).setWidth 32 <<< 1) ||| ord.bit.setWidth 32)

/-- `new(key as 16 bytes, cycles, byteOrder)` (R200, R323). -/
def newFromBytes (ord : ByteOrder) (irqEn : Bool) (cycles : Word) (key : Vector Byte 16) : List Instr :=
  [setCfg ord irqEn, .wrCyclesIn cycles] ++ pushB key.toList ++ [.initKb]

/-- `new(key as 4 words, cycles, byteOrder)` (R200, R323). -/
def newFromWords (ord : ByteOrder) (irqEn : Bool) (cycles : Word) (key : Vector Word 4) : List Instr :=
  [setCfg ord irqEn, .wrCyclesIn cycles] ++ pushW key.toList ++ [.initKw]

/-- `encrypt` or `decrypt` of 8 bytes up to its command: `command` is ENC or DEC (R200). -/
def byteBlockOps (command : Instr) (p : Vector Byte 8) : List Instr := pushB p.toList ++ [command]

/-- `encryptBlock` or `decryptBlock` of 2 words up to its command: `command` is ENCW or DECW (R200). -/
def wordBlockOps (command : Instr) (w0 w1 : Word) : List Instr := pushW [w0, w1] ++ [command]

/-- The host's accesses, one after another. -/
def host (ops : List Instr) : List Turn := ops.map fun i => .access (issue i)

/-- `n` turns of the engine agent. -/
def engineTurns (n : Nat) : List Turn := List.replicate n .engine

/-- The result bytes S[0..7] as the host recovers them from OUT_B0 and OUT_B1 (R88, R257). -/
def outputBytes (s : State) : Vector Byte 8 :=
  #v[s.outB0.extractLsb' 0 8, s.outB0.extractLsb' 8 8, s.outB0.extractLsb' 16 8, s.outB0.extractLsb' 24 8,
    s.outB1.extractLsb' 0 8, s.outB1.extractLsb' 8 8, s.outB1.extractLsb' 16 8, s.outB1.extractLsb' 24 8]

end Sys2Proof.Machine
end

