-- ==== Sys2Proof/Safety.lean ====
section
/-! DEFINITION. The terms in which claims about the machine are made: the invariants of spec/10_state.md R55 and of
spec/41_feistel_engine.md R187, schedules that keep to the defined accesses, and what a host can tell apart. -/

namespace Sys2Proof.Machine

/-- R55 (a) to (d). (e) is the width of the two counters. -/
abbrev State.Inv (s : State) : Prop :=
  (s.fsm = .run → s.done = false ∧ s.err = false ∧ s.cfgValid = true) ∧
    (s.cfgValid = true → 1 ≤ s.actCycles.toNat ∧ s.actCycles.toNat ≤ 2 ^ 31 - 1) ∧
    (s.err = false ↔ s.errcode = 0#4) ∧
    (s.fsm = .run → s.cnt.toNat ≤ s.actCycles.toNat)

/-- The invariant of R187: while a block command runs, SUM is DELTA × (n − CNT) when enciphering and DELTA × CNT when
deciphering, n being ACT_CYCLES. -/
abbrev State.SumTracks (s : State) : Prop :=
  s.fsm = .run →
    (s.dir = .encipher → s.sum = delta * (s.actCycles - s.cnt)) ∧ (s.dir = .decipher → s.sum = delta * s.cnt)

/-- Every access still to come is one that the spec defines (R90): the host keeps to the rules. -/
abbrev State.SafeSchedule (s : State) : Prop := ∀ a, Turn.access a ∈ s.pending → a.defined = true

/-- The rows by which a command word reaches CMD: the ten of format CMD, and `WR CMD`. -/
def issuesCommand : Instr → Bool
  | .initKb | .initKw | .enc | .dec | .encw | .decw | .clrbuf => true
  | .illegalOp0 | .illegalOp8F _ | .illegalRsv _ _ | .wrCmd _ => true
  | .rdCmd | .rdStatus | .rdConfig | .rdCyclesIn | .rdByteIn | .rdWordIn => false
  | .rdOutW0 | .rdOutW1 | .rdOutB0 | .rdOutB1 | .rdActCycles | .rdInfo => false
  | .rdRsvd30 | .rdRsvd34 | .rdRsvd38 | .rdRsvd3C => false
  | .wrStatus _ | .wrConfig _ | .wrCyclesIn _ | .wrByteIn _ | .wrWordIn _ => false
  | .wrOutW0 _ | .wrOutW1 _ | .wrOutB0 _ | .wrOutB1 _ | .wrActCycles _ | .wrInfo _ => false
  | .wrRsvd30 _ | .wrRsvd34 _ | .wrRsvd38 _ | .wrRsvd3C _ => false

/-- The command row that an instruction runs when it is accepted: itself, and for `WR CMD, c` the row of `c`. -/
def commandOf (i : Instr) : Instr :=
  match i with
  | .wrCmd c => decodeCommand c
  | j => j

/-- Two states that no host can tell apart (R54, R56, I6, I7): everything a bus access shows is equal, and what is
hidden is equal where something may yet read it: KEY once a configuration is valid, the datapath while a command runs,
a buffer cell below its counter. -/
structure State.SameView (s t : State) : Prop where
  actCycles : s.actCycles = t.actCycles
  actOrder : s.actOrder = t.actOrder
  cfgValid : s.cfgValid = t.cfgValid
  fsm : s.fsm = t.fsm
  bcount : s.bcount = t.bcount
  wcount : s.wcount = t.wcount
  outW0 : s.outW0 = t.outW0
  outW1 : s.outW1 = t.outW1
  outB0 : s.outB0 = t.outB0
  outB1 : s.outB1 = t.outB1
  cmdLast : s.cmdLast = t.cmdLast
  configOrder : s.configOrder = t.configOrder
  configIrqEn : s.configIrqEn = t.configIrqEn
  cyclesIn : s.cyclesIn = t.cyclesIn
  done : s.done = t.done
  err : s.err = t.err
  ovr : s.ovr = t.ovr
  errcode : s.errcode = t.errcode
  pending : s.pending = t.pending
  readLog : s.readLog = t.readLog
  key : s.cfgValid = true → s.key = t.key
  datapath : s.fsm = .run → s.v0 = t.v0 ∧ s.v1 = t.v1 ∧ s.sum = t.sum ∧ s.cnt = t.cnt ∧ s.dir = t.dir
  bbuf : ∀ (i : Nat) (h : i < 16), i < s.bcount.toNat → s.bbuf[i] = t.bbuf[i]
  wbuf : ∀ (i : Nat) (h : i < 4), i < s.wcount.toNat → s.wbuf[i] = t.wbuf[i]

/-- Two outcomes that no host can tell apart. -/
def SameOutcome : Result → Result → Prop
  | .next s, .next t => s.SameView t
  | .refused r, .refused q => r = q
  | .fault f, .fault g => f = g
  | .next _, .refused _ => False
  | .next _, .fault _ => False
  | .refused _, .next _ => False
  | .refused _, .fault _ => False
  | .fault _, .next _ => False
  | .fault _, .refused _ => False

/-- `k` steps of the machine. -/
def runSteps (k : Nat) (s : State) : Result := Host.Core.run Sys2Proof.core k s

/-- The pure transform that a direction names (R181). -/
def transform (dir : Direction) (key : Vector Word 4) (block : Word × Word) (n : Nat) : Word × Word :=
  match dir with
  | .encipher => encipher key block n
  | .decipher => decipher key block n

end Sys2Proof.Machine
end

