-- ==== Sys2Proof/Certificates/Slice0/Obligations.lean ====
section
/-! DEFINITION. The statements for the provers, from the numbered rules of spec/.

A statement of the form `exec i s = .next { s with … }` gives the instruction's next state whole, so it is the
instruction's result, its frame and its completion at once: every field not named keeps its value. The hardware has no
memory and no program counter (R33, R80), so a frame has no clause for either. `pending` and `readLog` are the model's
own fields (log entries 1 and 4). -/

open Sys2Proof Sys2Proof.Machine

/-! ## Encoding -/

/-- 30_encoding.md §1 and §3: no bit of an encoding is dropped, for every row of the opcode table. -/
def Obligations.DecodingAnEncodedInstructionGivesItBack : Prop :=
  ∀ i : Instr, i.wf = true → decode (encode i) = .ok i

/-- 30_encoding.md §1 and §3: each command word and each bus operation has one meaning, and encoding that meaning gives
the same form again. -/
def Obligations.EveryEncodedFormHasOneMeaning : Prop :=
  ∀ (c : Code) (i : Instr), decode c = .ok i → i.wf = true ∧ encode i = c

/-- R111, R112, R113, R116 (sanity): command words and bus patterns written out from the encoding tables decode to what
they stand for. How many bits stand for which form, and a write's data above the byte of its pattern, is the model's
layout of table bits (log entry 16, a DESIGN CHOICE): R113 gives the seven bits of a pattern and no such layout. -/
def Obligations.WordsOfTheTablesDecode : Prop :=
  decodeTableWord 32 0x00000001 = some .initKb ∧ decodeTableWord 32 0x00000004 = some .dec ∧
    decodeTableWord 32 0x00000007 = some .clrbuf ∧ decodeTableWord 32 0x0000000B = some (.illegalOp8F 3#3) ∧
    decodeTableWord 32 0x80000003 = some (.illegalRsv 3#4 0x8000000#28) ∧
    decodeTableWord 8 0x04 = some .rdStatus ∧ decodeTableWord 40 0x1234ABCD50 = some (.wrByteIn 0x1234ABCD#32) ∧
    decodeTableWord 8 0x05 = none

/-- R113, R90: of the 128 seven-bit patterns exactly those whose OFF is a multiple of 4 are bus operations, whatever
the data, and two different patterns are never the same operation. -/
def Obligations.PatternsAreDefinedIffAligned : Prop :=
  (∀ (p : BitVec 7) (d : Word), (∃ i, decodeBusop p d = .ok i) ↔ p.extractLsb' 0 2 = 0#2) ∧
    ∀ (p q : BitVec 7) (d e : Word) (i : Instr), decodeBusop p d = .ok i → decodeBusop q e = .ok i → p = q

/-! ## The step -/

/-- R93: a step whose next turn is a host access runs the instruction that the access decodes to, after taking the turn
off the list, and adds nothing else. The list of turns is the model's (log entry 1). -/
def Obligations.StepRunsTheDecodedInstruction : Prop :=
  ∀ (s : State) (a : BusAccess) (rest : List Turn) (i : Instr),
    s.pending = .access a :: rest → decodeAccess a = .ok i → step s = exec i { s with pending := rest }

/-- R118, R119: the one bus access by which the host issues an instruction makes the machine run exactly that
instruction, for every row of the table: a command row through the write of its word to CMD. -/
def Obligations.IssuingAnInstructionRunsIt : Prop :=
  ∀ (s : State) (i : Instr) (rest : List Turn),
    i.wf = true → s.pending = .access (issue i) :: rest → step s = exec i { s with pending := rest }

/-- R90, R260: an access that is not 32 bits wide at an offset inside the window that is a multiple of 4 is refused;
every other access completes in its one step, whatever the state. The reason a refusal names is the model's (log entry
5), and so the statement leaves it open. -/
def Obligations.OnlyDefinedAccessesHaveAMeaning : Prop :=
  ∀ (s : State) (a : BusAccess) (rest : List Turn), s.pending = .access a :: rest →
    (¬(a.size = .word ∧ 0 ≤ a.offset ∧ a.offset < 64 ∧ a.offset % 4 = 0) →
      ∃ e, step s = .refused (.undefinedAccess e)) ∧
    (a.size = .word → 0 ≤ a.offset → a.offset < 64 → a.offset % 4 = 0 → ∃ t, step s = .next t)

/-- R10, R80, R90: XTEA_BASE is 64-byte aligned, the window's 64 bytes start there, and a 32-bit access at any address
outside them is refused. The parameter has no value in the model, so this holds for every one. Two points of it are the
model's DESIGN CHOICE: that the refusal is named `outsideWindow`, also where the address is misaligned too (log entry
5), and that addresses have no width, so that one below XTEA_BASE never wraps into the window (log entry 6). -/
def Obligations.TheWindowStandsAtXteaBase : Prop :=
  Config.xteaBase % 64 = 0 ∧
    (∀ (off : Nat) (size : AccessSize) (op : BusOp),
      accessAt size (Config.xteaBase + off) op = { size := size, offset := off, op := op }) ∧
    ∀ (s : State) (address : Nat) (op : BusOp) (rest : List Turn),
      s.pending = .access (accessAt .word address op) :: rest →
      address < Config.xteaBase ∨ Config.xteaBase + 64 ≤ address →
      step s = .refused (.undefinedAccess .outsideWindow)

/-- R90, R333: a host that keeps to the defined accesses never brings the machine to a stop, over any number of steps
and with resets and engine turns anywhere between its accesses. That a step is there to take also when no turn is listed
and the machine is idle, and at an engine turn while idle, where R186 gives the engine no step, is the model's: both
change nothing (log entry 2, a DESIGN CHOICE, and log entry 3, DEDUCED). -/
def Obligations.SafeSchedulesNeverStop : Prop :=
  ∀ (k : Nat) (s : State), s.SafeSchedule → ∃ t, runSteps k s = .next t ∧ t.SafeSchedule

/-! ## Register reads -/

/-- R245, R250, R256, R257, R258: a read of CMD, CYCLES_IN, an output register or ACT_CYCLES returns the register and
has no side effect. -/
def Obligations.RegisterReadsReturnTheRegister : Prop :=
  ∀ s : State,
    exec .rdCmd s = .next { s with readLog := s.cmdLast :: s.readLog } ∧
    exec .rdCyclesIn s = .next { s with readLog := s.cyclesIn :: s.readLog } ∧
    exec .rdOutW0 s = .next { s with readLog := s.outW0 :: s.readLog } ∧
    exec .rdOutW1 s = .next { s with readLog := s.outW1 :: s.readLog } ∧
    exec .rdOutB0 s = .next { s with readLog := s.outB0 :: s.readLog } ∧
    exec .rdOutB1 s = .next { s with readLog := s.outB1 :: s.readLog } ∧
    exec .rdActCycles s = .next { s with readLog := s.actCycles :: s.readLog }

/-- R253, R255, R259, R262: BYTE_IN, WORD_IN and the reserved offsets read as 0, INFO as keySize 16 in its low byte and
blockSize 8 in the next, in every state, with no side effect. -/
def Obligations.ConstantReadsReturnTheirConstant : Prop :=
  ∀ s : State,
    exec .rdByteIn s = .next { s with readLog := 0#32 :: s.readLog } ∧
    exec .rdWordIn s = .next { s with readLog := 0#32 :: s.readLog } ∧
    exec .rdRsvd30 s = .next { s with readLog := 0#32 :: s.readLog } ∧
    exec .rdRsvd34 s = .next { s with readLog := 0#32 :: s.readLog } ∧
    exec .rdRsvd38 s = .next { s with readLog := 0#32 :: s.readLog } ∧
    exec .rdRsvd3C s = .next { s with readLog := 0#32 :: s.readLog } ∧
    ∃ w : Word, exec .rdInfo s = .next { s with readLog := w :: s.readLog } ∧
      w.extractLsb' 0 8 = 16#8 ∧ w.extractLsb' 8 8 = 8#8 ∧ w.extractLsb' 16 16 = 0#16

/-- R42, R43, R246: the word a read of STATUS returns, field by field. -/
def Obligations.StatusReadShowsEveryField : Prop :=
  ∀ s : State, ∃ w : Word, exec .rdStatus s = .next { s with readLog := w :: s.readLog } ∧
    w.getLsbD 0 = decide (s.fsm = .run) ∧ w.getLsbD 1 = s.done ∧ w.getLsbD 2 = s.err ∧ w.getLsbD 3 = false ∧
    w.extractLsb' 4 4 = s.errcode ∧ w.getLsbD 8 = s.ovr ∧ w.getLsbD 9 = s.cfgValid ∧
    w.getLsbD 10 = decide (s.actOrder = .le) ∧ w.extractLsb' 11 5 = 0#5 ∧
    w.extractLsb' 16 8 = s.bcount ∧ w.extractLsb' 24 8 = s.wcount

/-- R47, R248: a read of CONFIG returns ORDER in bit 0, IRQ_EN in bit 1 and zeros above, with no side effect. -/
def Obligations.ConfigReadShowsBothFields : Prop :=
  ∀ s : State, ∃ w : Word, exec .rdConfig s = .next { s with readLog := w :: s.readLog } ∧
    w.getLsbD 0 = decide (s.configOrder = .le) ∧ w.getLsbD 1 = s.configIrqEn ∧ w.extractLsb' 2 30 = 0#30

/-! ## Register writes -/

/-- R249, R248: `WR CONFIG, v` sets ORDER and IRQ_EN from bits 0 and 1 of v and changes nothing else, ACT_ORDER
included; a read of CONFIG then returns v with its reserved bits cleared. -/
def Obligations.ConfigWriteSetsBothFields : Prop :=
  ∀ (s : State) (v : Word), ∃ t, exec (.wrConfig v) s = .next t ∧
    t = { s with configOrder := if v.getLsbD 0 then .le else .be, configIrqEn := v.getLsbD 1 } ∧
    exec .rdConfig t = .next { t with readLog := (v &&& 3#32) :: t.readLog }

/-- R251, R48: `WR CYCLES_IN, v` stores any value, legal or not, changes nothing else, and it reads back unchanged. -/
def Obligations.CyclesInHoldsAnyValue : Prop :=
  ∀ (s : State) (v : Word), ∃ t, exec (.wrCyclesIn v) s = .next t ∧ t = { s with cyclesIn := v } ∧
    exec .rdCyclesIn t = .next { t with readLog := v :: t.readLog }

/-- R247: `WR STATUS, v` clears DONE if bit 1 of v is 1 and OVR if bit 8 is 1; all other bits are ignored, and ERR and
ERRCODE stay. -/
def Obligations.StatusWriteClearsDoneAndOvr : Prop :=
  ∀ (s : State) (v : Word),
    exec (.wrStatus v) s = .next
      { s with
        done := if v.getLsbD 1 then false else s.done
        ovr := if v.getLsbD 8 then false else s.ovr }

/-- R252: `WR BYTE_IN, v` stores v[7:0] in BBUF[BCOUNT] if BCOUNT < 16, counts the push up to 255, and changes nothing
else. -/
def Obligations.ByteInPushesOneByte : Prop :=
  ∀ (s : State) (v : Word), ∃ t, exec (.wrByteIn v) s = .next t ∧
    t = { s with bbuf := t.bbuf, bcount := t.bcount } ∧
    t.bcount.toNat = min 255 (s.bcount.toNat + 1) ∧
    ∀ (i : Nat) (h : i < 16), t.bbuf[i] = if i = s.bcount.toNat then v.extractLsb' 0 8 else s.bbuf[i]

/-- R254: `WR WORD_IN, v` stores v in WBUF[WCOUNT] if WCOUNT < 4, counts the push up to 255, and changes nothing
else. -/
def Obligations.WordInPushesOneWord : Prop :=
  ∀ (s : State) (v : Word), ∃ t, exec (.wrWordIn v) s = .next t ∧
    t = { s with wbuf := t.wbuf, wcount := t.wcount } ∧
    t.wcount.toNat = min 255 (s.wcount.toNat + 1) ∧
    ∀ (i : Nat) (h : i < 4), t.wbuf[i] = if i = s.wcount.toNat then v else s.wbuf[i]

/-- R39, R120, R327: a PUSHB of any bytes into an empty byte buffer leaves the first sixteen of them in the cells in
push order and their number, saturated at 255, in BCOUNT; it changes nothing else. -/
def Obligations.PushbFillsTheByteBuffer : Prop :=
  ∀ (s : State) (bs : List Byte) (rest : List Turn),
    s.bcount = 0#8 → s.pending = host (pushB bs) ++ rest →
    ∃ t, runSteps bs.length s = .next t ∧
      t = { s with bbuf := t.bbuf, bcount := t.bcount, pending := rest } ∧
      t.bcount.toNat = min 255 bs.length ∧
      ∀ (i : Nat) (h : i < 16), t.bbuf[i] = bs.getD i s.bbuf[i]

/-- R40, R120, R327: a PUSHW of any words into an empty word buffer leaves the first four of them in the cells in push
order and their number, saturated at 255, in WCOUNT; it changes nothing else. -/
def Obligations.PushwFillsTheWordBuffer : Prop :=
  ∀ (s : State) (ws : List Word) (rest : List Turn),
    s.wcount = 0#8 → s.pending = host (pushW ws) ++ rest →
    ∃ t, runSteps ws.length s = .next t ∧
      t = { s with wbuf := t.wbuf, wcount := t.wcount, pending := rest } ∧
      t.wcount.toNat = min 255 ws.length ∧
      ∀ (i : Nat) (h : i < 4), t.wbuf[i] = ws.getD i s.wbuf[i]

/-- R261, R262, R82: a write of a read-only register or of a reserved offset changes no state. -/
def Obligations.ReadOnlyAndReservedWritesChangeNothing : Prop :=
  ∀ (s : State) (v : Word),
    exec (.wrOutW0 v) s = .next s ∧ exec (.wrOutW1 v) s = .next s ∧ exec (.wrOutB0 v) s = .next s ∧
    exec (.wrOutB1 v) s = .next s ∧ exec (.wrActCycles v) s = .next s ∧ exec (.wrInfo v) s = .next s ∧
    exec (.wrRsvd30 v) s = .next s ∧ exec (.wrRsvd34 v) s = .next s ∧ exec (.wrRsvd38 v) s = .next s ∧
    exec (.wrRsvd3C v) s = .next s

/-! ## Commands: dispatch and errors -/

/-- R240, R241, R119: `WR CMD, c` does exactly what the command row of c does, in every state. -/
def Obligations.WritingACommandWordRunsItsCommand : Prop :=
  ∀ (c : Word) (s : State), exec (.wrCmd c) s = exec (decodeCommand c) s

/-- R241: an accepted command word, whatever it is, is recorded and ends in one of three ways inside the transition: an
error report, an immediate success, or a started block command. -/
def Obligations.AcceptanceEndsInOneOfThreeWays : Prop :=
  ∀ (c : Word) (s : State), s.fsm = .idle → ∃ t, exec (.wrCmd c) s = .next t ∧ t.cmdLast = c ∧
    ((t.done = true ∧ t.err = true ∧ t.errcode ≠ 0#4 ∧ t.fsm = .idle) ∨
     (t.done = true ∧ t.err = false ∧ t.errcode = 0#4 ∧ t.fsm = .idle ∧
        decodeCommand c ∈ [Instr.initKb, .initKw, .clrbuf]) ∨
     (t.done = false ∧ t.err = false ∧ t.errcode = 0#4 ∧ t.fsm = .run ∧
        decodeCommand c ∈ [Instr.enc, .dec, .encw, .decw]))

/-- R242: a command word written while FSM = RUN is dropped, legal or not: OVR is set and nothing else changes, the
running command included. -/
def Obligations.CommandsWhileBusyAreDropped : Prop :=
  ∀ (i : Instr) (s : State), issuesCommand i = true → s.fsm = .run → exec i s = .next { s with ovr := true }

/-- R112, R116, R244: every command word but 1 to 7, accepted while IDLE, changes only CMD_LAST, DONE, ERR and ERRCODE
(to 7), whatever its OP field. -/
def Obligations.IllegalWordsReportIllegalCommand : Prop :=
  ∀ (c : Word) (s : State), s.fsm = .idle → ¬(1 ≤ c.toNat ∧ c.toNat ≤ 7) →
    exec (.wrCmd c) s = .next { s with cmdLast := c, done := true, err := true, errcode := 7#4 }

/-- R244: the three rows of illegal words, accepted while IDLE. Which row a word that two of them match belongs to is
the model's choice (log entry 9). -/
def Obligations.IllegalRowsReportIllegalCommand : Prop :=
  ∀ (s : State) (op3 : BitVec 3) (op4 : BitVec 4) (rsv : BitVec 28), s.fsm = .idle →
    exec .illegalOp0 s = .next { s with cmdLast := 0#32, done := true, err := true, errcode := 7#4 } ∧
    exec (.illegalOp8F op3) s = .next
      { s with cmdLast := BitVec.ofNat 32 (8 + op3.toNat), done := true, err := true, errcode := 7#4 } ∧
    exec (.illegalRsv op4 rsv) s = .next
      { s with cmdLast := BitVec.ofNat 32 (16 * rsv.toNat + op4.toNat), done := true, err := true, errcode := 7#4 }

/-- R285, R286: a command that fails leaves everything as it was but CMD_LAST, the report, and the count of the buffer
it consumes. -/
def Obligations.FailedCommandsChangeOnlyTheReport : Prop :=
  ∀ (i : Instr) (s t : State), issuesCommand i = true → s.fsm = .idle → exec i s = .next t → t.err = true →
    t = { s with
      cmdLast := t.cmdLast, done := true, err := true, errcode := t.errcode
      bcount := if commandOf i ∈ [Instr.initKb, .enc, .dec] then 0#8 else s.bcount
      wcount := if commandOf i ∈ [Instr.initKw, .encw, .decw] then 0#8 else s.wcount }

/-- R282: which error codes each command can report, CLRBUF reporting none. -/
def Obligations.EachCommandReportsOnlyItsOwnErrors : Prop :=
  ∀ (i : Instr) (s t : State), issuesCommand i = true → s.fsm = .idle → exec i s = .next t → t.err = true →
    (commandOf i = .initKb → t.errcode = 1#4 ∨ t.errcode = 3#4) ∧
    (commandOf i = .initKw → t.errcode = 2#4 ∨ t.errcode = 3#4) ∧
    (commandOf i ∈ [Instr.enc, .dec] → t.errcode = 4#4 ∨ t.errcode = 6#4) ∧
    (commandOf i ∈ [Instr.encw, .decw] → t.errcode = 5#4 ∨ t.errcode = 6#4) ∧
    commandOf i ≠ .clrbuf ∧
    (commandOf i ∉ [Instr.initKb, .initKw, .enc, .dec, .encw, .decw, .clrbuf] → t.errcode = 7#4)

/-! ## Commands: the key schedule -/

/-- R142, R141, R85: INIT_KB with 16 bytes and a legal cycle count installs the key words of the byte groups in
CONFIG_ORDER, the cycle count and the order, and consumes the byte buffer; nothing else changes. -/
def Obligations.InitKbInstallsTheByteKey : Prop :=
  ∀ s : State, s.fsm = .idle → s.bcount = 16#8 → 1 ≤ s.cyclesIn.toNat → s.cyclesIn.toNat ≤ 2 ^ 31 - 1 →
    ∃ t, exec .initKb s = .next t ∧
      t = { s with
        key := t.key, actCycles := s.cyclesIn, actOrder := s.configOrder, cfgValid := true, bcount := 0#8
        cmdLast := 1#32, done := true, err := false, errcode := 0#4 } ∧
      ∀ (i : Nat) (h : i < 4),
        (s.configOrder = .be →
          t.key[i] = s.bbuf[4 * i] ++ s.bbuf[4 * i + 1] ++ s.bbuf[4 * i + 2] ++ s.bbuf[4 * i + 3]) ∧
        (s.configOrder = .le →
          t.key[i] = s.bbuf[4 * i + 3] ++ s.bbuf[4 * i + 2] ++ s.bbuf[4 * i + 1] ++ s.bbuf[4 * i])

/-- R143, R148: INIT_KW with 4 words and a legal cycle count installs the words as pushed, whatever CONFIG_ORDER is,
with the cycle count and the order, and consumes the word buffer; nothing else changes. -/
def Obligations.InitKwInstallsTheWordKey : Prop :=
  ∀ s : State, s.fsm = .idle → s.wcount = 4#8 → 1 ≤ s.cyclesIn.toNat → s.cyclesIn.toNat ≤ 2 ^ 31 - 1 →
    exec .initKw s = .next
      { s with
        key := s.wbuf, actCycles := s.cyclesIn, actOrder := s.configOrder, cfgValid := true, wcount := 0#8
        cmdLast := 2#32, done := true, err := false, errcode := 0#4 }

/-- R144, R145, R146, R147, R284: an INIT with a wrong length reports that, whatever the cycle count; with the right
length and a cycle count of 0 or with bit 31 set it reports InvalidCycleCount. Either way the buffer is consumed and
the active configuration stays. -/
def Obligations.InitFailuresKeepTheConfiguration : Prop :=
  ∀ s : State, s.fsm = .idle →
    (s.bcount ≠ 16#8 → exec .initKb s = .next
      { s with bcount := 0#8, cmdLast := 1#32, done := true, err := true, errcode := 1#4 }) ∧
    (s.bcount = 16#8 → ¬(1 ≤ s.cyclesIn.toNat ∧ s.cyclesIn.toNat ≤ 2 ^ 31 - 1) → exec .initKb s = .next
      { s with bcount := 0#8, cmdLast := 1#32, done := true, err := true, errcode := 3#4 }) ∧
    (s.wcount ≠ 4#8 → exec .initKw s = .next
      { s with wcount := 0#8, cmdLast := 2#32, done := true, err := true, errcode := 2#4 }) ∧
    (s.wcount = 4#8 → ¬(1 ≤ s.cyclesIn.toNat ∧ s.cyclesIn.toNat ≤ 2 ^ 31 - 1) → exec .initKw s = .next
      { s with wcount := 0#8, cmdLast := 2#32, done := true, err := true, errcode := 3#4 })

/-! ## Commands: the block cipher -/

/-- R201, R202, R205, R86, R180: ENC and DEC with a configuration and 8 bytes start the engine on the two words the
bytes form in ACT_ORDER, from the sum 0 or DELTA × ACT_CYCLES mod 2^32, and consume the byte buffer; nothing else
changes. -/
def Obligations.ByteBlockCommandsStartTheEngine : Prop :=
  ∀ s : State, s.fsm = .idle → s.cfgValid = true → s.bcount = 8#8 →
    (s.actOrder = .be → exec .enc s = .next
      { s with
        v0 := s.bbuf[0] ++ s.bbuf[1] ++ s.bbuf[2] ++ s.bbuf[3], v1 := s.bbuf[4] ++ s.bbuf[5] ++ s.bbuf[6] ++ s.bbuf[7]
        sum := 0#32, cnt := s.actCycles, dir := .encipher, fsm := .run, bcount := 0#8
        cmdLast := 3#32, done := false, err := false, errcode := 0#4 }) ∧
    (s.actOrder = .le → exec .enc s = .next
      { s with
        v0 := s.bbuf[3] ++ s.bbuf[2] ++ s.bbuf[1] ++ s.bbuf[0], v1 := s.bbuf[7] ++ s.bbuf[6] ++ s.bbuf[5] ++ s.bbuf[4]
        sum := 0#32, cnt := s.actCycles, dir := .encipher, fsm := .run, bcount := 0#8
        cmdLast := 3#32, done := false, err := false, errcode := 0#4 }) ∧
    (s.actOrder = .be → exec .dec s = .next
      { s with
        v0 := s.bbuf[0] ++ s.bbuf[1] ++ s.bbuf[2] ++ s.bbuf[3], v1 := s.bbuf[4] ++ s.bbuf[5] ++ s.bbuf[6] ++ s.bbuf[7]
        sum := BitVec.ofNat 32 (0x9E3779B9 * s.actCycles.toNat), cnt := s.actCycles, dir := .decipher, fsm := .run
        bcount := 0#8, cmdLast := 4#32, done := false, err := false, errcode := 0#4 }) ∧
    (s.actOrder = .le → exec .dec s = .next
      { s with
        v0 := s.bbuf[3] ++ s.bbuf[2] ++ s.bbuf[1] ++ s.bbuf[0], v1 := s.bbuf[7] ++ s.bbuf[6] ++ s.bbuf[5] ++ s.bbuf[4]
        sum := BitVec.ofNat 32 (0x9E3779B9 * s.actCycles.toNat), cnt := s.actCycles, dir := .decipher, fsm := .run
        bcount := 0#8, cmdLast := 4#32, done := false, err := false, errcode := 0#4 })

/-- R203, R204, R205, R180: ENCW and DECW with a configuration and 2 words start the engine on the words as pushed and
consume the word buffer; nothing else changes. -/
def Obligations.WordBlockCommandsStartTheEngine : Prop :=
  ∀ s : State, s.fsm = .idle → s.cfgValid = true → s.wcount = 2#8 →
    exec .encw s = .next
      { s with
        v0 := s.wbuf[0], v1 := s.wbuf[1], sum := 0#32, cnt := s.actCycles, dir := .encipher, fsm := .run
        wcount := 0#8, cmdLast := 5#32, done := false, err := false, errcode := 0#4 } ∧
    exec .decw s = .next
      { s with
        v0 := s.wbuf[0], v1 := s.wbuf[1], sum := BitVec.ofNat 32 (0x9E3779B9 * s.actCycles.toNat)
        cnt := s.actCycles, dir := .decipher, fsm := .run
        wcount := 0#8, cmdLast := 6#32, done := false, err := false, errcode := 0#4 }

/-- R201 to R204, R284, R321: without a configuration every block command reports NoKey, whatever its buffer holds;
with one, a wrong length is reported. Either way the command's buffer is consumed and nothing else changes. -/
def Obligations.BlockCommandFailuresAreReported : Prop :=
  ∀ s : State, s.fsm = .idle →
    (s.cfgValid = false →
      exec .enc s = .next { s with bcount := 0#8, cmdLast := 3#32, done := true, err := true, errcode := 6#4 } ∧
      exec .dec s = .next { s with bcount := 0#8, cmdLast := 4#32, done := true, err := true, errcode := 6#4 } ∧
      exec .encw s = .next { s with wcount := 0#8, cmdLast := 5#32, done := true, err := true, errcode := 6#4 } ∧
      exec .decw s = .next { s with wcount := 0#8, cmdLast := 6#32, done := true, err := true, errcode := 6#4 }) ∧
    (s.cfgValid = true → s.bcount ≠ 8#8 →
      exec .enc s = .next { s with bcount := 0#8, cmdLast := 3#32, done := true, err := true, errcode := 4#4 } ∧
      exec .dec s = .next { s with bcount := 0#8, cmdLast := 4#32, done := true, err := true, errcode := 4#4 }) ∧
    (s.cfgValid = true → s.wcount ≠ 2#8 →
      exec .encw s = .next { s with wcount := 0#8, cmdLast := 5#32, done := true, err := true, errcode := 5#4 } ∧
      exec .decw s = .next { s with wcount := 0#8, cmdLast := 6#32, done := true, err := true, errcode := 5#4 })

/-- R243: CLRBUF, accepted while IDLE, empties both buffers and reports success; nothing else changes. -/
def Obligations.ClrbufEmptiesBothBuffers : Prop :=
  ∀ s : State, s.fsm = .idle → exec .clrbuf s = .next
    { s with bcount := 0#8, wcount := 0#8, cmdLast := 7#32, done := true, err := false, errcode := 0#4 }

/-! ## The engine -/

/-- R184, R172 to R179, R151, R152: the engine cycle step, with both half-rounds written out. -/
def Obligations.EngineCycleStepDoesOneCycle : Prop :=
  ∀ (s : State) (rest : List Turn), s.pending = .engine :: rest → s.fsm = .run → s.cnt ≠ 0#32 →
    let f : Word → Word := fun v => ((v <<< 4) ^^^ (v >>> 5)) + v
    let keyA : Word → Word := fun x => s.key.toList.getD (x &&& 3#32).toNat 0#32
    let keyB : Word → Word := fun x => s.key.toList.getD ((x >>> 11) &&& 3#32).toNat 0#32
    (s.dir = .encipher → ∃ t, step s = .next t ∧
      t = { s with v0 := t.v0, v1 := t.v1, sum := t.sum, cnt := t.cnt, pending := rest } ∧
      t.v0 = s.v0 + (f s.v1 ^^^ (s.sum + keyA s.sum)) ∧ t.sum = s.sum + 0x9E3779B9#32 ∧
      t.v1 = s.v1 + (f t.v0 ^^^ (t.sum + keyB t.sum)) ∧ t.cnt.toNat = s.cnt.toNat - 1) ∧
    (s.dir = .decipher → ∃ t, step s = .next t ∧
      t = { s with v0 := t.v0, v1 := t.v1, sum := t.sum, cnt := t.cnt, pending := rest } ∧
      t.v1 = s.v1 - (f s.v0 ^^^ (s.sum + keyB s.sum)) ∧ t.sum = s.sum - 0x9E3779B9#32 ∧
      t.v0 = s.v0 - (f t.v1 ^^^ (t.sum + keyA t.sum)) ∧ t.cnt.toNat = s.cnt.toNat - 1)

/-- R185, R206, R88: the engine completion step writes both forms of the result, lowers BUSY and raises DONE; nothing
else changes. OUT_B0 and OUT_B1 are the words themselves in little-endian order, and the words with their bytes
reversed in big-endian order. -/
def Obligations.EngineCompletionStepWritesTheOutputs : Prop :=
  ∀ (s : State) (rest : List Turn), s.pending = .engine :: rest → s.fsm = .run → s.cnt = 0#32 →
    (s.actOrder = .le → step s = .next
      { s with
        outW0 := s.v0, outW1 := s.v1, outB0 := s.v0, outB1 := s.v1, fsm := .idle, done := true, pending := rest }) ∧
    (s.actOrder = .be → step s = .next
      { s with
        outW0 := s.v0
        outW1 := s.v1
        outB0 := s.v0.extractLsb' 0 8 ++ s.v0.extractLsb' 8 8 ++ s.v0.extractLsb' 16 8 ++ s.v0.extractLsb' 24 8
        outB1 := s.v1.extractLsb' 0 8 ++ s.v1.extractLsb' 8 8 ++ s.v1.extractLsb' 16 8 ++ s.v1.extractLsb' 24 8
        fsm := .idle, done := true, pending := rest })

/-- R186: while FSM = IDLE the engine agent has no step, so its turn changes nothing (log entry 3, DEDUCED). That a machine with no turn left
waits unchanged is the model's choice (log entry 2). -/
def Obligations.TheEngineRestsWhileIdle : Prop :=
  ∀ s : State, s.fsm = .idle →
    (∀ rest, s.pending = .engine :: rest → step s = .next { s with pending := rest }) ∧
    (s.pending = [] → step s = .next s)

/-- R84: the endianness mux and its inverse, in both orders and both directions. -/
def Obligations.BytesAndWordsAreInverse : Prop :=
  ∀ (ord : ByteOrder) (b0 b1 b2 b3 : Byte) (w : Word),
    bytesOf ord (wordOf ord b0 b1 b2 b3) = #v[b0, b1, b2, b3] ∧
    (let b := bytesOf ord w
     wordOf ord b[0] b[1] b[2] b[3] = w)

/-- R179: one decipher cycle undoes one encipher cycle, for every key, block and sum, and the other way round. -/
def Obligations.OneCycleUndoesTheOther : Prop :=
  ∀ (key : Vector Word 4) (d : Datapath),
    decCycle key (encCycle key d) = d ∧ encCycle key (decCycle key d) = d

/-- R181: after n encipher cycles the sum is DELTA × n mod 2^32, and after all n cycles of a decipher it is 0. -/
def Obligations.TheSumFollowsTheCycles : Prop :=
  ∀ (key : Vector Word 4) (w0 w1 : Word) (n : Nat),
    (encCycles key n { v0 := w0, v1 := w1, sum := 0#32 }).sum = BitVec.ofNat 32 (0x9E3779B9 * n) ∧
    (decCycles key n { v0 := w0, v1 := w1, sum := BitVec.ofNat 32 (0x9E3779B9 * n) }).sum = 0#32

/-- R182: `decipher(encipher(block, key, n), key, n) == block` for every block, key and n ≥ 0, and the same in the
other order, which the spec marks as derived. Both are the identity for n = 0 (R183, the law of the pure functions). -/
def Obligations.DecipherInvertsEncipher : Prop :=
  ∀ (key : Vector Word 4) (block : Word × Word) (n : Nat),
    decipher key (encipher key block n) n = block ∧ encipher key (decipher key block n) n = block ∧
      encipher key block 0 = block ∧ decipher key block 0 = block

/-! ## Whole runs -/

/-- R187, R201 to R204, R331: a block command that passes its checks, followed by ACT_CYCLES + 1 engine steps, leaves
in OUT_W0 and OUT_W1 the pure transform of its block under KEY and ACT_CYCLES, with DONE = 1 and FSM = IDLE; the
configuration, the buffers and the staging registers are those acceptance left. The schedule with no turn listed is the
model's (log entry 2), and so is what the idle datapath holds (log entry 17); the next statement is over every
schedule. -/
def Obligations.BlockCommandsComputeTheTransform : Prop :=
  ∀ (i : Instr) (dir : Direction) (s u : State),
    (i, dir) ∈ [(Instr.enc, Direction.encipher), (.dec, .decipher), (.encw, .encipher), (.decw, .decipher)] →
    s.fsm = .idle → exec i s = .next u → u.fsm = .run → u.pending = [] →
    ∃ t, runSteps (s.actCycles.toNat + 1) u = .next t ∧
      (t.outW0, t.outW1) = transform dir s.key (u.v0, u.v1) s.actCycles.toNat ∧
      t = { u with
        v0 := t.outW0, v1 := t.outW1, sum := t.sum, cnt := 0#32, fsm := .idle, done := true
        outW0 := t.outW0, outW1 := t.outW1, outB0 := t.outB0, outB1 := t.outB1 }

/-- R93, R97, R325, R187: from a block command just accepted, whatever defined accesses the host makes between the
engine's steps (pushes, writes of CONFIG and CYCLES_IN, reads, and commands, which are dropped), the result is the same
pure transform, and the engine's step number ACT_CYCLES + 1 is the one that completes. -/
def Obligations.TheResultIsTheSameUnderEverySchedule : Prop :=
  ∀ (s : State) (l rest : List Turn),
    s.fsm = .run → s.cnt = s.actCycles → s.sum = initialSum s.dir s.actCycles →
    (∀ a, Turn.access a ∈ l → a.defined = true) → Turn.reset ∉ l → l.count Turn.engine = s.actCycles.toNat →
    s.pending = l ++ .engine :: rest →
    ∃ u t, runSteps l.length s = .next u ∧ u.fsm = .run ∧ u.outW0 = s.outW0 ∧ u.outW1 = s.outW1 ∧
      u.outB0 = s.outB0 ∧ u.outB1 = s.outB1 ∧
      runSteps (l.length + 1) s = .next t ∧ t.fsm = .idle ∧ t.done = true ∧ t.pending = rest ∧
      (t.outW0, t.outW1) = transform s.dir s.key (s.v0, s.v1) s.actCycles.toNat ∧
      outputBytes t = serialize s.actOrder t.outW0 t.outW1

/-- R208: under one active configuration, encrypting 8 bytes and then decrypting the result bytes recovered from OUT_B0
and OUT_B1 gives the same 8 bytes back; the same with DEC first, and with ENCW and DECW on words. The schedule is the
one of spec/95_test_vectors.md: each block runs to completion before the next access. -/
def Obligations.CommandRoundTrip : Prop :=
  ∀ (s : State), s.fsm = .idle → s.cfgValid = true → s.bcount = 0#8 → s.wcount = 0#8 →
    let n := s.actCycles.toNat + 1
    (∀ (c d : Instr) (p : Vector Byte 8), (c, d) ∈ [(Instr.enc, Instr.dec), (.dec, .enc)] →
      ∃ t u, runSteps (9 + n) { s with pending := host (byteBlockOps c p) ++ engineTurns n } = .next t ∧
        t.fsm = .idle ∧ t.done = true ∧ t.err = false ∧
        runSteps (9 + n) { t with pending := host (byteBlockOps d (outputBytes t)) ++ engineTurns n } = .next u ∧
        u.fsm = .idle ∧ u.done = true ∧ u.err = false ∧ outputBytes u = p) ∧
    (∀ (c d : Instr) (w0 w1 : Word), (c, d) ∈ [(Instr.encw, Instr.decw), (.decw, .encw)] →
      ∃ t u, runSteps (3 + n) { s with pending := host (wordBlockOps c w0 w1) ++ engineTurns n } = .next t ∧
        t.fsm = .idle ∧ t.done = true ∧ t.err = false ∧
        runSteps (3 + n) { t with pending := host (wordBlockOps d t.outW0 t.outW1) ++ engineTurns n } = .next u ∧
        u.fsm = .idle ∧ u.done = true ∧ u.err = false ∧ u.outW0 = w0 ∧ u.outW1 = w1)

/-- R333, R331, R33: from RUN with a silent host, the engine needs exactly CNT + 1 steps: BUSY stays 1 through CNT of
them, CNT counting down by 1 each, and the next one completes. That a machine with no turn listed lets the engine step
is the model's choice, for the spec's fairness (log entry 2). -/
def Obligations.ARunEndsAfterCntPlusOneSteps : Prop :=
  ∀ s : State, s.fsm = .run → s.pending = [] →
    (∀ j : Nat, j ≤ s.cnt.toNat →
      ∃ t, runSteps j s = .next t ∧ t.fsm = .run ∧ t.cnt.toNat = s.cnt.toNat - j ∧ t.done = s.done) ∧
    ∃ t, runSteps (s.cnt.toNat + 1) s = .next t ∧ t.fsm = .idle ∧ t.done = true

/-! ## Invariants -/

/-- R55 (sanity): the state after reset satisfies the invariants. -/
def Obligations.ResetSatisfiesTheInvariants : Prop := State.reset.Inv ∧ State.reset.SumTracks

/-- R55: every step keeps the invariants, from every state that has them, reachable or not. -/
def Obligations.EveryStepKeepsTheInvariants : Prop :=
  ∀ s t : State, s.Inv → step s = .next t → t.Inv

/-- R55, which the spec marks as derived: every state that the machine reaches from reset, under any schedule of
accesses, engine steps and further resets, satisfies (a) to (e). It follows from the two statements before it. -/
def Obligations.EveryReachableStateSatisfiesTheInvariants : Prop :=
  ∀ (k : Nat) (l : List Turn) (t : State), runSteps k { State.reset with pending := l } = .next t →
    (t.fsm = .run → t.done = false ∧ t.err = false ∧ t.cfgValid = true) ∧
    (t.cfgValid = true → 1 ≤ t.actCycles.toNat ∧ t.actCycles.toNat ≤ 2 ^ 31 - 1) ∧
    (t.err = false ↔ t.errcode = 0#4) ∧
    (t.fsm = .run → t.cnt.toNat ≤ t.actCycles.toNat) ∧
    t.bcount.toNat ≤ 255 ∧ t.wcount.toNat ≤ 255

/-- R187: every step keeps the relation of SUM to CNT, ACT_CYCLES and DIR while a block command runs. -/
def Obligations.EveryStepKeepsTheSumRelation : Prop :=
  ∀ s t : State, s.SumTracks → step s = .next t → t.SumTracks

/-- R281: no step writes a code of 8 to 15 to ERRCODE. -/
def Obligations.ReservedErrorCodesAreNeverWritten : Prop :=
  ∀ s t : State, step s = .next t → t.errcode = s.errcode ∨ t.errcode.toNat ≤ 7

/-! ## Whole-machine rules -/

/-- R34: FSM changes from IDLE to RUN only at the acceptance of a block command that passed its checks, and from RUN to
IDLE only at the completion step or at reset. -/
def Obligations.FsmChangesOnlyAtStartCompletionAndReset : Prop :=
  ∀ s t : State, step s = .next t → t.fsm ≠ s.fsm →
    (s.fsm = .idle ∧ ∃ a rest i, s.pending = .access a :: rest ∧ decodeAccess a = .ok i ∧
      commandOf i ∈ [Instr.enc, .dec, .encw, .decw] ∧ s.cfgValid = true ∧ t.err = false) ∨
    (s.fsm = .run ∧ s.cnt = 0#32 ∧ (s.pending = [] ∨ ∃ rest, s.pending = .engine :: rest)) ∨
    (s.fsm = .run ∧ ∃ rest, s.pending = .reset :: rest)

/-- R35 to R38, R140, R150, R321: KEY, ACT_CYCLES, ACT_ORDER and CFG_VALID change only at a successful INIT_KB or
INIT_KW accepted while IDLE, which installs a legal cycle count and makes the configuration valid, or at reset. So
nothing but reset makes it invalid. -/
def Obligations.TheConfigurationChangesOnlyAtInit : Prop :=
  ∀ s t : State, step s = .next t →
    (t.key ≠ s.key ∨ t.actCycles ≠ s.actCycles ∨ t.actOrder ≠ s.actOrder ∨ t.cfgValid ≠ s.cfgValid) →
    (∃ rest, s.pending = .reset :: rest) ∨
    (s.fsm = .idle ∧ t.cfgValid = true ∧ t.done = true ∧ t.err = false ∧
      1 ≤ t.actCycles.toNat ∧ t.actCycles.toNat ≤ 2 ^ 31 - 1 ∧
      ∃ a rest i, s.pending = .access a :: rest ∧ decodeAccess a = .ok i ∧
        commandOf i ∈ [Instr.initKb, .initKw])

/-- R49, R50, R326: the output registers change only at a completion step or at reset. -/
def Obligations.OutputsChangeOnlyAtCompletion : Prop :=
  ∀ s t : State, step s = .next t →
    (t.outW0 ≠ s.outW0 ∨ t.outW1 ≠ s.outW1 ∨ t.outB0 ≠ s.outB0 ∨ t.outB1 ≠ s.outB1) →
    (∃ rest, s.pending = .reset :: rest) ∨
    (s.fsm = .run ∧ s.cnt = 0#32 ∧ t.fsm = .idle ∧ t.done = true)

/-- R45, R46: ERR and ERRCODE are written only at the acceptance of a command and at reset, and OVR is set only by a
command word written while FSM = RUN. -/
def Obligations.OnlyCommandsWriteTheReport : Prop :=
  ∀ s t : State, step s = .next t →
    ((t.err ≠ s.err ∨ t.errcode ≠ s.errcode) →
      (∃ rest, s.pending = .reset :: rest) ∨
      (s.fsm = .idle ∧ ∃ a rest i, s.pending = .access a :: rest ∧ decodeAccess a = .ok i ∧
        issuesCommand i = true)) ∧
    (s.ovr = false → t.ovr = true →
      s.fsm = .run ∧ ∃ a rest i, s.pending = .access a :: rest ∧ decodeAccess a = .ok i ∧ issuesCommand i = true)

/-- R97, R150, R325: no host access changes what a running block command works on, or the outputs. -/
def Obligations.HostAccessesLeaveARunAlone : Prop :=
  ∀ (i : Instr) (s : State), s.fsm = .run → ∃ t, exec i s = .next t ∧
    t = { s with
      bbuf := t.bbuf, bcount := t.bcount, wbuf := t.wbuf, wcount := t.wcount
      configOrder := t.configOrder, configIrqEn := t.configIrqEn, cyclesIn := t.cyclesIn
      done := t.done, ovr := t.ovr, readLog := t.readLog }

/-! ## Reset and the interrupt line -/

/-- R56, R320: the reset event, in any state and FSM = RUN included, sets every piece of the machine's state to its
reset value in one step. The values of the registers that R56 marks as not observable are the ones it lists,
where it allows any: that is the model's choice (log entry 10). The host's own turns and the values it has read stay: that is the
model's too (log entry 14). -/
def Obligations.ResetSetsEveryRegister : Prop :=
  ∀ (s : State) (rest : List Turn), s.pending = .reset :: rest → ∃ t, step s = .next t ∧
    (∀ (i : Nat) (h : i < 4), t.key[i] = 0#32) ∧ t.actCycles = 0#32 ∧ t.actOrder = .be ∧ t.cfgValid = false ∧
    t.v0 = 0#32 ∧ t.v1 = 0#32 ∧ t.sum = 0#32 ∧ t.cnt = 0#32 ∧ t.dir = .encipher ∧ t.fsm = .idle ∧
    (∀ (i : Nat) (h : i < 16), t.bbuf[i] = 0#8) ∧ t.bcount = 0#8 ∧
    (∀ (i : Nat) (h : i < 4), t.wbuf[i] = 0#32) ∧ t.wcount = 0#8 ∧
    t.outW0 = 0#32 ∧ t.outW1 = 0#32 ∧ t.outB0 = 0#32 ∧ t.outB1 = 0#32 ∧ t.cmdLast = 0#32 ∧
    t.configOrder = .be ∧ t.configIrqEn = false ∧ t.cyclesIn = 0x20#32 ∧
    t.done = false ∧ t.err = false ∧ t.ovr = false ∧ t.errcode = 0#4 ∧
    t.pending = rest ∧ t.readLog = s.readLog

/-- R52, R290: the IRQ level follows the commands: after a command that ends at acceptance it is CONFIG_IRQ_EN, after a
block command's acceptance it is low, after the completion step it is CONFIG_IRQ_EN again, a write of STATUS with
bit 1 set lowers it, and clearing IRQ_EN masks it without clearing DONE. -/
def Obligations.IrqFollowsDoneAndItsEnable : Prop :=
  (∀ (i : Instr) (s t : State), issuesCommand i = true → s.fsm = .idle → exec i s = .next t →
    (t.fsm = .idle → irq t = s.configIrqEn) ∧ (t.fsm = .run → irq t = false)) ∧
  (∀ (s : State) (rest : List Turn), s.pending = .engine :: rest → s.fsm = .run → s.cnt = 0#32 →
    ∃ t, step s = .next t ∧ irq t = s.configIrqEn) ∧
  (∀ (s : State) (v : Word), v.getLsbD 1 = true → ∃ t, exec (.wrStatus v) s = .next t ∧ irq t = false) ∧
  ∀ (s : State) (v : Word), v.getLsbD 1 = false → s.done = true →
    ∃ t, exec (.wrConfig v) s = .next t ∧ irq t = false ∧ t.done = true

/-! ## What a host can observe -/

/-- R54, R56, I6, I7: two states that agree on everything a bus access shows, and on what is hidden where something may
yet read it, cannot be told apart by any schedule: each run of one is matched by the other, stop by stop. -/
def Obligations.HiddenStateIsNotObservable : Prop :=
  ∀ (k : Nat) (s t : State), s.Inv → s.SameView t → SameOutcome (runSteps k s) (runSteps k t)

/-- R56: "A reset value marked "no" cannot be observed": whatever the hidden registers hold after reset, every schedule
gives the host the same values at its reads. It is the statement before it at two states after reset. -/
def Obligations.HiddenResetValuesDoNotMatter : Prop :=
  ∀ (k : Nat) (l : List Turn) (key wbuf : Vector Word 4) (v0 v1 sum cnt : Word) (dir : Direction)
    (bbuf : Vector Byte 16) (t : State),
    runSteps k { State.reset with pending := l } = .next t →
    ∃ u, runSteps k
        { State.reset with
          pending := l, key := key, wbuf := wbuf, v0 := v0, v1 := v1, sum := sum, cnt := cnt, dir := dir
          bbuf := bbuf } = .next u ∧
      u.readLog = t.readLog ∧ irq u = irq t
end

