-- ==== Sys2Proof/Laws/Decode.lean ====
section
/-! SUPPORT. What the decoder can answer: one equation for an access of each direction inside the window, one inversion
lemma for the bus operations, and the fields of a command word put together from its parts. -/

namespace Sys2Proof

theorem decodeAccess_read (off : Int) (h0 : 0 ≤ off) (h : off < 64) :
    decodeAccess { size := .word, offset := off, op := .read } =
      decodeBusop (busPattern false (BitVec.ofInt 6 off)) 0#32 := by
  simp [decodeAccess, Int.not_lt.2 h0, Int.not_le.2 h]

theorem decodeAccess_write (off : Int) (d : Word) (h0 : 0 ≤ off) (h : off < 64) :
    decodeAccess { size := .word, offset := off, op := .write d } =
      decodeBusop (busPattern true (BitVec.ofInt 6 off)) d := by
  simp [decodeAccess, Int.not_lt.2 h0, Int.not_le.2 h]

/-- The value of a BUSOP pattern (R113). -/
theorem busPattern_toNat : ∀ (w : Bool) (x : BitVec 6), (busPattern w x).toNat = (if w then 64 else 0) + x.toNat := by
  decide

/-- Only a 32-bit access inside the window decodes. -/
theorem decodeAccess_ok_inv {a : BusAccess} {i : Instr} (h : decodeAccess a = .ok i) :
    a.size = .word ∧ 0 ≤ a.offset ∧ a.offset < 64 := by
  unfold decodeAccess at h
  split at h
  · cases h
  · split at h
    · cases h
    · rename_i h1 h2
      exact ⟨not_not.1 h1, by omega, by omega⟩

/-- A bus operation's pattern and constructor determine one another: it is the read, or the write of the data, at one
offset of the window that is a multiple of 4. -/
theorem decodeBusop_ok_inv {p : BitVec 7} {d : Word} {i : Instr} (h : decodeBusop p d = .ok i) :
    ∃ off : Nat, off < 64 ∧ off % 4 = 0 ∧
      ((p.toNat = off ∧ encode i = readAt off) ∨ (p.toNat = 64 + off ∧ encode i = writeAt off d)) ∧
      i.wf = true := by
  unfold decodeBusop at h
  split at h
  all_goals first
    | (rename_i hp
       cases h
       first
       | exact ⟨p.toNat, by omega, by omega, .inl ⟨rfl, by rw [hp]; rfl⟩, rfl⟩
       | exact ⟨p.toNat - 64, by omega, by omega, .inr ⟨by omega, by rw [hp]; rfl⟩, rfl⟩)
    | cases h

/-- RSV of the word RSV ++ OP. -/
theorem rsvField_append (rsv : BitVec 28) (op : BitVec 4) : rsvField (rsv ++ op) = rsv :=
  BitVec.extractLsb'_append_eq_left

/-- OP of the word RSV ++ OP. -/
theorem opField_append (rsv : BitVec 28) (op : BitVec 4) : opField (rsv ++ op) = op :=
  BitVec.extractLsb'_append_eq_right

/-- A command word is its RSV and its OP put together. -/
theorem rsvField_opField (c : Word) : rsvField c ++ opField c = c := by
  apply BitVec.eq_of_getLsbD_eq
  intro i hi
  simp only [rsvField, opField, BitVec.getLsbD_append, BitVec.getLsbD_extractLsb']
  by_cases h : i < 4
  · simp [h]
  · have h1 : i - 4 < 28 := by omega
    have h2 : 4 + (i - 4) = i := by omega
    simp [h, h1, h2]

/-- The value of a command word from its fields. -/
theorem toNat_fields (c : Word) : c.toNat = 16 * (rsvField c).toNat + (opField c).toNat := by
  have h := c.isLt
  simp only [rsvField, opField, BitVec.extractLsb'_toNat, Nat.shiftRight_eq_div_pow]
  omega

/-- RSV is 0 exactly in the words below 16. -/
theorem rsvField_eq_zero_iff (c : Word) : rsvField c = 0#28 ↔ c.toNat < 16 := by
  have h := toNat_fields c
  have h1 := (opField c).isLt
  constructor
  · intro h0; rw [h0] at h; simp at h; omega
  · intro h0; apply BitVec.eq_of_toNat_eq; simp; omega

end Sys2Proof
end

