-- ==== Sys2Proof/Laws/State.lean ====
section
/-! SUPPORT. What each named update of the record leaves in each field: one lemma per field per update, true by
definition, so that no proof unfolds an update. -/

namespace Sys2Proof.Machine


/-! ### answerRead -/

@[simp] theorem answerRead_key (v : Word) (s : State) : (answerRead v s).key = s.key := rfl
@[simp] theorem answerRead_actCycles (v : Word) (s : State) : (answerRead v s).actCycles = s.actCycles := rfl
@[simp] theorem answerRead_actOrder (v : Word) (s : State) : (answerRead v s).actOrder = s.actOrder := rfl
@[simp] theorem answerRead_cfgValid (v : Word) (s : State) : (answerRead v s).cfgValid = s.cfgValid := rfl
@[simp] theorem answerRead_v0 (v : Word) (s : State) : (answerRead v s).v0 = s.v0 := rfl
@[simp] theorem answerRead_v1 (v : Word) (s : State) : (answerRead v s).v1 = s.v1 := rfl
@[simp] theorem answerRead_sum (v : Word) (s : State) : (answerRead v s).sum = s.sum := rfl
@[simp] theorem answerRead_cnt (v : Word) (s : State) : (answerRead v s).cnt = s.cnt := rfl
@[simp] theorem answerRead_dir (v : Word) (s : State) : (answerRead v s).dir = s.dir := rfl
@[simp] theorem answerRead_fsm (v : Word) (s : State) : (answerRead v s).fsm = s.fsm := rfl
@[simp] theorem answerRead_bbuf (v : Word) (s : State) : (answerRead v s).bbuf = s.bbuf := rfl
@[simp] theorem answerRead_bcount (v : Word) (s : State) : (answerRead v s).bcount = s.bcount := rfl
@[simp] theorem answerRead_wbuf (v : Word) (s : State) : (answerRead v s).wbuf = s.wbuf := rfl
@[simp] theorem answerRead_wcount (v : Word) (s : State) : (answerRead v s).wcount = s.wcount := rfl
@[simp] theorem answerRead_outW0 (v : Word) (s : State) : (answerRead v s).outW0 = s.outW0 := rfl
@[simp] theorem answerRead_outW1 (v : Word) (s : State) : (answerRead v s).outW1 = s.outW1 := rfl
@[simp] theorem answerRead_outB0 (v : Word) (s : State) : (answerRead v s).outB0 = s.outB0 := rfl
@[simp] theorem answerRead_outB1 (v : Word) (s : State) : (answerRead v s).outB1 = s.outB1 := rfl
@[simp] theorem answerRead_cmdLast (v : Word) (s : State) : (answerRead v s).cmdLast = s.cmdLast := rfl
@[simp] theorem answerRead_configOrder (v : Word) (s : State) : (answerRead v s).configOrder = s.configOrder := rfl
@[simp] theorem answerRead_configIrqEn (v : Word) (s : State) : (answerRead v s).configIrqEn = s.configIrqEn := rfl
@[simp] theorem answerRead_cyclesIn (v : Word) (s : State) : (answerRead v s).cyclesIn = s.cyclesIn := rfl
@[simp] theorem answerRead_done (v : Word) (s : State) : (answerRead v s).done = s.done := rfl
@[simp] theorem answerRead_err (v : Word) (s : State) : (answerRead v s).err = s.err := rfl
@[simp] theorem answerRead_ovr (v : Word) (s : State) : (answerRead v s).ovr = s.ovr := rfl
@[simp] theorem answerRead_errcode (v : Word) (s : State) : (answerRead v s).errcode = s.errcode := rfl
@[simp] theorem answerRead_pending (v : Word) (s : State) : (answerRead v s).pending = s.pending := rfl
@[simp] theorem answerRead_readLog (v : Word) (s : State) : (answerRead v s).readLog = v :: s.readLog := rfl

/-! ### beginCommand -/

@[simp] theorem beginCommand_key (c : Word) (s : State) : (beginCommand c s).key = s.key := rfl
@[simp] theorem beginCommand_actCycles (c : Word) (s : State) : (beginCommand c s).actCycles = s.actCycles := rfl
@[simp] theorem beginCommand_actOrder (c : Word) (s : State) : (beginCommand c s).actOrder = s.actOrder := rfl
@[simp] theorem beginCommand_cfgValid (c : Word) (s : State) : (beginCommand c s).cfgValid = s.cfgValid := rfl
@[simp] theorem beginCommand_v0 (c : Word) (s : State) : (beginCommand c s).v0 = s.v0 := rfl
@[simp] theorem beginCommand_v1 (c : Word) (s : State) : (beginCommand c s).v1 = s.v1 := rfl
@[simp] theorem beginCommand_sum (c : Word) (s : State) : (beginCommand c s).sum = s.sum := rfl
@[simp] theorem beginCommand_cnt (c : Word) (s : State) : (beginCommand c s).cnt = s.cnt := rfl
@[simp] theorem beginCommand_dir (c : Word) (s : State) : (beginCommand c s).dir = s.dir := rfl
@[simp] theorem beginCommand_fsm (c : Word) (s : State) : (beginCommand c s).fsm = s.fsm := rfl
@[simp] theorem beginCommand_bbuf (c : Word) (s : State) : (beginCommand c s).bbuf = s.bbuf := rfl
@[simp] theorem beginCommand_bcount (c : Word) (s : State) : (beginCommand c s).bcount = s.bcount := rfl
@[simp] theorem beginCommand_wbuf (c : Word) (s : State) : (beginCommand c s).wbuf = s.wbuf := rfl
@[simp] theorem beginCommand_wcount (c : Word) (s : State) : (beginCommand c s).wcount = s.wcount := rfl
@[simp] theorem beginCommand_outW0 (c : Word) (s : State) : (beginCommand c s).outW0 = s.outW0 := rfl
@[simp] theorem beginCommand_outW1 (c : Word) (s : State) : (beginCommand c s).outW1 = s.outW1 := rfl
@[simp] theorem beginCommand_outB0 (c : Word) (s : State) : (beginCommand c s).outB0 = s.outB0 := rfl
@[simp] theorem beginCommand_outB1 (c : Word) (s : State) : (beginCommand c s).outB1 = s.outB1 := rfl
@[simp] theorem beginCommand_cmdLast (c : Word) (s : State) : (beginCommand c s).cmdLast = c := rfl
@[simp] theorem beginCommand_configOrder (c : Word) (s : State) : (beginCommand c s).configOrder = s.configOrder := rfl
@[simp] theorem beginCommand_configIrqEn (c : Word) (s : State) : (beginCommand c s).configIrqEn = s.configIrqEn := rfl
@[simp] theorem beginCommand_cyclesIn (c : Word) (s : State) : (beginCommand c s).cyclesIn = s.cyclesIn := rfl
@[simp] theorem beginCommand_done (c : Word) (s : State) : (beginCommand c s).done = false := rfl
@[simp] theorem beginCommand_err (c : Word) (s : State) : (beginCommand c s).err = s.err := rfl
@[simp] theorem beginCommand_ovr (c : Word) (s : State) : (beginCommand c s).ovr = s.ovr := rfl
@[simp] theorem beginCommand_errcode (c : Word) (s : State) : (beginCommand c s).errcode = s.errcode := rfl
@[simp] theorem beginCommand_pending (c : Word) (s : State) : (beginCommand c s).pending = s.pending := rfl
@[simp] theorem beginCommand_readLog (c : Word) (s : State) : (beginCommand c s).readLog = s.readLog := rfl

/-! ### raiseErr -/

@[simp] theorem raiseErr_key (e : CommandError) (s : State) : (raiseErr e s).key = s.key := rfl
@[simp] theorem raiseErr_actCycles (e : CommandError) (s : State) : (raiseErr e s).actCycles = s.actCycles := rfl
@[simp] theorem raiseErr_actOrder (e : CommandError) (s : State) : (raiseErr e s).actOrder = s.actOrder := rfl
@[simp] theorem raiseErr_cfgValid (e : CommandError) (s : State) : (raiseErr e s).cfgValid = s.cfgValid := rfl
@[simp] theorem raiseErr_v0 (e : CommandError) (s : State) : (raiseErr e s).v0 = s.v0 := rfl
@[simp] theorem raiseErr_v1 (e : CommandError) (s : State) : (raiseErr e s).v1 = s.v1 := rfl
@[simp] theorem raiseErr_sum (e : CommandError) (s : State) : (raiseErr e s).sum = s.sum := rfl
@[simp] theorem raiseErr_cnt (e : CommandError) (s : State) : (raiseErr e s).cnt = s.cnt := rfl
@[simp] theorem raiseErr_dir (e : CommandError) (s : State) : (raiseErr e s).dir = s.dir := rfl
@[simp] theorem raiseErr_fsm (e : CommandError) (s : State) : (raiseErr e s).fsm = s.fsm := rfl
@[simp] theorem raiseErr_bbuf (e : CommandError) (s : State) : (raiseErr e s).bbuf = s.bbuf := rfl
@[simp] theorem raiseErr_bcount (e : CommandError) (s : State) : (raiseErr e s).bcount = s.bcount := rfl
@[simp] theorem raiseErr_wbuf (e : CommandError) (s : State) : (raiseErr e s).wbuf = s.wbuf := rfl
@[simp] theorem raiseErr_wcount (e : CommandError) (s : State) : (raiseErr e s).wcount = s.wcount := rfl
@[simp] theorem raiseErr_outW0 (e : CommandError) (s : State) : (raiseErr e s).outW0 = s.outW0 := rfl
@[simp] theorem raiseErr_outW1 (e : CommandError) (s : State) : (raiseErr e s).outW1 = s.outW1 := rfl
@[simp] theorem raiseErr_outB0 (e : CommandError) (s : State) : (raiseErr e s).outB0 = s.outB0 := rfl
@[simp] theorem raiseErr_outB1 (e : CommandError) (s : State) : (raiseErr e s).outB1 = s.outB1 := rfl
@[simp] theorem raiseErr_cmdLast (e : CommandError) (s : State) : (raiseErr e s).cmdLast = s.cmdLast := rfl
@[simp] theorem raiseErr_configOrder (e : CommandError) (s : State) : (raiseErr e s).configOrder = s.configOrder := rfl
@[simp] theorem raiseErr_configIrqEn (e : CommandError) (s : State) : (raiseErr e s).configIrqEn = s.configIrqEn := rfl
@[simp] theorem raiseErr_cyclesIn (e : CommandError) (s : State) : (raiseErr e s).cyclesIn = s.cyclesIn := rfl
@[simp] theorem raiseErr_done (e : CommandError) (s : State) : (raiseErr e s).done = true := rfl
@[simp] theorem raiseErr_err (e : CommandError) (s : State) : (raiseErr e s).err = true := rfl
@[simp] theorem raiseErr_ovr (e : CommandError) (s : State) : (raiseErr e s).ovr = s.ovr := rfl
@[simp] theorem raiseErr_errcode (e : CommandError) (s : State) : (raiseErr e s).errcode = e.code := rfl
@[simp] theorem raiseErr_pending (e : CommandError) (s : State) : (raiseErr e s).pending = s.pending := rfl
@[simp] theorem raiseErr_readLog (e : CommandError) (s : State) : (raiseErr e s).readLog = s.readLog := rfl

/-! ### succeed -/

@[simp] theorem succeed_key (s : State) : (succeed s).key = s.key := rfl
@[simp] theorem succeed_actCycles (s : State) : (succeed s).actCycles = s.actCycles := rfl
@[simp] theorem succeed_actOrder (s : State) : (succeed s).actOrder = s.actOrder := rfl
@[simp] theorem succeed_cfgValid (s : State) : (succeed s).cfgValid = s.cfgValid := rfl
@[simp] theorem succeed_v0 (s : State) : (succeed s).v0 = s.v0 := rfl
@[simp] theorem succeed_v1 (s : State) : (succeed s).v1 = s.v1 := rfl
@[simp] theorem succeed_sum (s : State) : (succeed s).sum = s.sum := rfl
@[simp] theorem succeed_cnt (s : State) : (succeed s).cnt = s.cnt := rfl
@[simp] theorem succeed_dir (s : State) : (succeed s).dir = s.dir := rfl
@[simp] theorem succeed_fsm (s : State) : (succeed s).fsm = s.fsm := rfl
@[simp] theorem succeed_bbuf (s : State) : (succeed s).bbuf = s.bbuf := rfl
@[simp] theorem succeed_bcount (s : State) : (succeed s).bcount = s.bcount := rfl
@[simp] theorem succeed_wbuf (s : State) : (succeed s).wbuf = s.wbuf := rfl
@[simp] theorem succeed_wcount (s : State) : (succeed s).wcount = s.wcount := rfl
@[simp] theorem succeed_outW0 (s : State) : (succeed s).outW0 = s.outW0 := rfl
@[simp] theorem succeed_outW1 (s : State) : (succeed s).outW1 = s.outW1 := rfl
@[simp] theorem succeed_outB0 (s : State) : (succeed s).outB0 = s.outB0 := rfl
@[simp] theorem succeed_outB1 (s : State) : (succeed s).outB1 = s.outB1 := rfl
@[simp] theorem succeed_cmdLast (s : State) : (succeed s).cmdLast = s.cmdLast := rfl
@[simp] theorem succeed_configOrder (s : State) : (succeed s).configOrder = s.configOrder := rfl
@[simp] theorem succeed_configIrqEn (s : State) : (succeed s).configIrqEn = s.configIrqEn := rfl
@[simp] theorem succeed_cyclesIn (s : State) : (succeed s).cyclesIn = s.cyclesIn := rfl
@[simp] theorem succeed_done (s : State) : (succeed s).done = true := rfl
@[simp] theorem succeed_err (s : State) : (succeed s).err = false := rfl
@[simp] theorem succeed_ovr (s : State) : (succeed s).ovr = s.ovr := rfl
@[simp] theorem succeed_errcode (s : State) : (succeed s).errcode = 0#4 := rfl
@[simp] theorem succeed_pending (s : State) : (succeed s).pending = s.pending := rfl
@[simp] theorem succeed_readLog (s : State) : (succeed s).readLog = s.readLog := rfl

/-! ### dropCommand -/

@[simp] theorem dropCommand_key (s : State) : (dropCommand s).key = s.key := rfl
@[simp] theorem dropCommand_actCycles (s : State) : (dropCommand s).actCycles = s.actCycles := rfl
@[simp] theorem dropCommand_actOrder (s : State) : (dropCommand s).actOrder = s.actOrder := rfl
@[simp] theorem dropCommand_cfgValid (s : State) : (dropCommand s).cfgValid = s.cfgValid := rfl
@[simp] theorem dropCommand_v0 (s : State) : (dropCommand s).v0 = s.v0 := rfl
@[simp] theorem dropCommand_v1 (s : State) : (dropCommand s).v1 = s.v1 := rfl
@[simp] theorem dropCommand_sum (s : State) : (dropCommand s).sum = s.sum := rfl
@[simp] theorem dropCommand_cnt (s : State) : (dropCommand s).cnt = s.cnt := rfl
@[simp] theorem dropCommand_dir (s : State) : (dropCommand s).dir = s.dir := rfl
@[simp] theorem dropCommand_fsm (s : State) : (dropCommand s).fsm = s.fsm := rfl
@[simp] theorem dropCommand_bbuf (s : State) : (dropCommand s).bbuf = s.bbuf := rfl
@[simp] theorem dropCommand_bcount (s : State) : (dropCommand s).bcount = s.bcount := rfl
@[simp] theorem dropCommand_wbuf (s : State) : (dropCommand s).wbuf = s.wbuf := rfl
@[simp] theorem dropCommand_wcount (s : State) : (dropCommand s).wcount = s.wcount := rfl
@[simp] theorem dropCommand_outW0 (s : State) : (dropCommand s).outW0 = s.outW0 := rfl
@[simp] theorem dropCommand_outW1 (s : State) : (dropCommand s).outW1 = s.outW1 := rfl
@[simp] theorem dropCommand_outB0 (s : State) : (dropCommand s).outB0 = s.outB0 := rfl
@[simp] theorem dropCommand_outB1 (s : State) : (dropCommand s).outB1 = s.outB1 := rfl
@[simp] theorem dropCommand_cmdLast (s : State) : (dropCommand s).cmdLast = s.cmdLast := rfl
@[simp] theorem dropCommand_configOrder (s : State) : (dropCommand s).configOrder = s.configOrder := rfl
@[simp] theorem dropCommand_configIrqEn (s : State) : (dropCommand s).configIrqEn = s.configIrqEn := rfl
@[simp] theorem dropCommand_cyclesIn (s : State) : (dropCommand s).cyclesIn = s.cyclesIn := rfl
@[simp] theorem dropCommand_done (s : State) : (dropCommand s).done = s.done := rfl
@[simp] theorem dropCommand_err (s : State) : (dropCommand s).err = s.err := rfl
@[simp] theorem dropCommand_ovr (s : State) : (dropCommand s).ovr = true := rfl
@[simp] theorem dropCommand_errcode (s : State) : (dropCommand s).errcode = s.errcode := rfl
@[simp] theorem dropCommand_pending (s : State) : (dropCommand s).pending = s.pending := rfl
@[simp] theorem dropCommand_readLog (s : State) : (dropCommand s).readLog = s.readLog := rfl

/-! ### consumeBytes -/

@[simp] theorem consumeBytes_key (s : State) : (consumeBytes s).key = s.key := rfl
@[simp] theorem consumeBytes_actCycles (s : State) : (consumeBytes s).actCycles = s.actCycles := rfl
@[simp] theorem consumeBytes_actOrder (s : State) : (consumeBytes s).actOrder = s.actOrder := rfl
@[simp] theorem consumeBytes_cfgValid (s : State) : (consumeBytes s).cfgValid = s.cfgValid := rfl
@[simp] theorem consumeBytes_v0 (s : State) : (consumeBytes s).v0 = s.v0 := rfl
@[simp] theorem consumeBytes_v1 (s : State) : (consumeBytes s).v1 = s.v1 := rfl
@[simp] theorem consumeBytes_sum (s : State) : (consumeBytes s).sum = s.sum := rfl
@[simp] theorem consumeBytes_cnt (s : State) : (consumeBytes s).cnt = s.cnt := rfl
@[simp] theorem consumeBytes_dir (s : State) : (consumeBytes s).dir = s.dir := rfl
@[simp] theorem consumeBytes_fsm (s : State) : (consumeBytes s).fsm = s.fsm := rfl
@[simp] theorem consumeBytes_bbuf (s : State) : (consumeBytes s).bbuf = s.bbuf := rfl
@[simp] theorem consumeBytes_bcount (s : State) : (consumeBytes s).bcount = 0#8 := rfl
@[simp] theorem consumeBytes_wbuf (s : State) : (consumeBytes s).wbuf = s.wbuf := rfl
@[simp] theorem consumeBytes_wcount (s : State) : (consumeBytes s).wcount = s.wcount := rfl
@[simp] theorem consumeBytes_outW0 (s : State) : (consumeBytes s).outW0 = s.outW0 := rfl
@[simp] theorem consumeBytes_outW1 (s : State) : (consumeBytes s).outW1 = s.outW1 := rfl
@[simp] theorem consumeBytes_outB0 (s : State) : (consumeBytes s).outB0 = s.outB0 := rfl
@[simp] theorem consumeBytes_outB1 (s : State) : (consumeBytes s).outB1 = s.outB1 := rfl
@[simp] theorem consumeBytes_cmdLast (s : State) : (consumeBytes s).cmdLast = s.cmdLast := rfl
@[simp] theorem consumeBytes_configOrder (s : State) : (consumeBytes s).configOrder = s.configOrder := rfl
@[simp] theorem consumeBytes_configIrqEn (s : State) : (consumeBytes s).configIrqEn = s.configIrqEn := rfl
@[simp] theorem consumeBytes_cyclesIn (s : State) : (consumeBytes s).cyclesIn = s.cyclesIn := rfl
@[simp] theorem consumeBytes_done (s : State) : (consumeBytes s).done = s.done := rfl
@[simp] theorem consumeBytes_err (s : State) : (consumeBytes s).err = s.err := rfl
@[simp] theorem consumeBytes_ovr (s : State) : (consumeBytes s).ovr = s.ovr := rfl
@[simp] theorem consumeBytes_errcode (s : State) : (consumeBytes s).errcode = s.errcode := rfl
@[simp] theorem consumeBytes_pending (s : State) : (consumeBytes s).pending = s.pending := rfl
@[simp] theorem consumeBytes_readLog (s : State) : (consumeBytes s).readLog = s.readLog := rfl

/-! ### consumeWords -/

@[simp] theorem consumeWords_key (s : State) : (consumeWords s).key = s.key := rfl
@[simp] theorem consumeWords_actCycles (s : State) : (consumeWords s).actCycles = s.actCycles := rfl
@[simp] theorem consumeWords_actOrder (s : State) : (consumeWords s).actOrder = s.actOrder := rfl
@[simp] theorem consumeWords_cfgValid (s : State) : (consumeWords s).cfgValid = s.cfgValid := rfl
@[simp] theorem consumeWords_v0 (s : State) : (consumeWords s).v0 = s.v0 := rfl
@[simp] theorem consumeWords_v1 (s : State) : (consumeWords s).v1 = s.v1 := rfl
@[simp] theorem consumeWords_sum (s : State) : (consumeWords s).sum = s.sum := rfl
@[simp] theorem consumeWords_cnt (s : State) : (consumeWords s).cnt = s.cnt := rfl
@[simp] theorem consumeWords_dir (s : State) : (consumeWords s).dir = s.dir := rfl
@[simp] theorem consumeWords_fsm (s : State) : (consumeWords s).fsm = s.fsm := rfl
@[simp] theorem consumeWords_bbuf (s : State) : (consumeWords s).bbuf = s.bbuf := rfl
@[simp] theorem consumeWords_bcount (s : State) : (consumeWords s).bcount = s.bcount := rfl
@[simp] theorem consumeWords_wbuf (s : State) : (consumeWords s).wbuf = s.wbuf := rfl
@[simp] theorem consumeWords_wcount (s : State) : (consumeWords s).wcount = 0#8 := rfl
@[simp] theorem consumeWords_outW0 (s : State) : (consumeWords s).outW0 = s.outW0 := rfl
@[simp] theorem consumeWords_outW1 (s : State) : (consumeWords s).outW1 = s.outW1 := rfl
@[simp] theorem consumeWords_outB0 (s : State) : (consumeWords s).outB0 = s.outB0 := rfl
@[simp] theorem consumeWords_outB1 (s : State) : (consumeWords s).outB1 = s.outB1 := rfl
@[simp] theorem consumeWords_cmdLast (s : State) : (consumeWords s).cmdLast = s.cmdLast := rfl
@[simp] theorem consumeWords_configOrder (s : State) : (consumeWords s).configOrder = s.configOrder := rfl
@[simp] theorem consumeWords_configIrqEn (s : State) : (consumeWords s).configIrqEn = s.configIrqEn := rfl
@[simp] theorem consumeWords_cyclesIn (s : State) : (consumeWords s).cyclesIn = s.cyclesIn := rfl
@[simp] theorem consumeWords_done (s : State) : (consumeWords s).done = s.done := rfl
@[simp] theorem consumeWords_err (s : State) : (consumeWords s).err = s.err := rfl
@[simp] theorem consumeWords_ovr (s : State) : (consumeWords s).ovr = s.ovr := rfl
@[simp] theorem consumeWords_errcode (s : State) : (consumeWords s).errcode = s.errcode := rfl
@[simp] theorem consumeWords_pending (s : State) : (consumeWords s).pending = s.pending := rfl
@[simp] theorem consumeWords_readLog (s : State) : (consumeWords s).readLog = s.readLog := rfl

/-! ### install -/

@[simp] theorem install_key (k : Vector Word 4) (c : Word) (ord : ByteOrder) (s : State) : (install k c ord s).key = k := rfl
@[simp] theorem install_actCycles (k : Vector Word 4) (c : Word) (ord : ByteOrder) (s : State) : (install k c ord s).actCycles = c := rfl
@[simp] theorem install_actOrder (k : Vector Word 4) (c : Word) (ord : ByteOrder) (s : State) : (install k c ord s).actOrder = ord := rfl
@[simp] theorem install_cfgValid (k : Vector Word 4) (c : Word) (ord : ByteOrder) (s : State) : (install k c ord s).cfgValid = true := rfl
@[simp] theorem install_v0 (k : Vector Word 4) (c : Word) (ord : ByteOrder) (s : State) : (install k c ord s).v0 = s.v0 := rfl
@[simp] theorem install_v1 (k : Vector Word 4) (c : Word) (ord : ByteOrder) (s : State) : (install k c ord s).v1 = s.v1 := rfl
@[simp] theorem install_sum (k : Vector Word 4) (c : Word) (ord : ByteOrder) (s : State) : (install k c ord s).sum = s.sum := rfl
@[simp] theorem install_cnt (k : Vector Word 4) (c : Word) (ord : ByteOrder) (s : State) : (install k c ord s).cnt = s.cnt := rfl
@[simp] theorem install_dir (k : Vector Word 4) (c : Word) (ord : ByteOrder) (s : State) : (install k c ord s).dir = s.dir := rfl
@[simp] theorem install_fsm (k : Vector Word 4) (c : Word) (ord : ByteOrder) (s : State) : (install k c ord s).fsm = s.fsm := rfl
@[simp] theorem install_bbuf (k : Vector Word 4) (c : Word) (ord : ByteOrder) (s : State) : (install k c ord s).bbuf = s.bbuf := rfl
@[simp] theorem install_bcount (k : Vector Word 4) (c : Word) (ord : ByteOrder) (s : State) : (install k c ord s).bcount = s.bcount := rfl
@[simp] theorem install_wbuf (k : Vector Word 4) (c : Word) (ord : ByteOrder) (s : State) : (install k c ord s).wbuf = s.wbuf := rfl
@[simp] theorem install_wcount (k : Vector Word 4) (c : Word) (ord : ByteOrder) (s : State) : (install k c ord s).wcount = s.wcount := rfl
@[simp] theorem install_outW0 (k : Vector Word 4) (c : Word) (ord : ByteOrder) (s : State) : (install k c ord s).outW0 = s.outW0 := rfl
@[simp] theorem install_outW1 (k : Vector Word 4) (c : Word) (ord : ByteOrder) (s : State) : (install k c ord s).outW1 = s.outW1 := rfl
@[simp] theorem install_outB0 (k : Vector Word 4) (c : Word) (ord : ByteOrder) (s : State) : (install k c ord s).outB0 = s.outB0 := rfl
@[simp] theorem install_outB1 (k : Vector Word 4) (c : Word) (ord : ByteOrder) (s : State) : (install k c ord s).outB1 = s.outB1 := rfl
@[simp] theorem install_cmdLast (k : Vector Word 4) (c : Word) (ord : ByteOrder) (s : State) : (install k c ord s).cmdLast = s.cmdLast := rfl
@[simp] theorem install_configOrder (k : Vector Word 4) (c : Word) (ord : ByteOrder) (s : State) : (install k c ord s).configOrder = s.configOrder := rfl
@[simp] theorem install_configIrqEn (k : Vector Word 4) (c : Word) (ord : ByteOrder) (s : State) : (install k c ord s).configIrqEn = s.configIrqEn := rfl
@[simp] theorem install_cyclesIn (k : Vector Word 4) (c : Word) (ord : ByteOrder) (s : State) : (install k c ord s).cyclesIn = s.cyclesIn := rfl
@[simp] theorem install_done (k : Vector Word 4) (c : Word) (ord : ByteOrder) (s : State) : (install k c ord s).done = true := rfl
@[simp] theorem install_err (k : Vector Word 4) (c : Word) (ord : ByteOrder) (s : State) : (install k c ord s).err = false := rfl
@[simp] theorem install_ovr (k : Vector Word 4) (c : Word) (ord : ByteOrder) (s : State) : (install k c ord s).ovr = s.ovr := rfl
@[simp] theorem install_errcode (k : Vector Word 4) (c : Word) (ord : ByteOrder) (s : State) : (install k c ord s).errcode = 0#4 := rfl
@[simp] theorem install_pending (k : Vector Word 4) (c : Word) (ord : ByteOrder) (s : State) : (install k c ord s).pending = s.pending := rfl
@[simp] theorem install_readLog (k : Vector Word 4) (c : Word) (ord : ByteOrder) (s : State) : (install k c ord s).readLog = s.readLog := rfl

/-! ### startBlock -/

@[simp] theorem startBlock_key (dir : Direction) (w0 w1 : Word) (s : State) : (startBlock dir w0 w1 s).key = s.key := rfl
@[simp] theorem startBlock_actCycles (dir : Direction) (w0 w1 : Word) (s : State) : (startBlock dir w0 w1 s).actCycles = s.actCycles := rfl
@[simp] theorem startBlock_actOrder (dir : Direction) (w0 w1 : Word) (s : State) : (startBlock dir w0 w1 s).actOrder = s.actOrder := rfl
@[simp] theorem startBlock_cfgValid (dir : Direction) (w0 w1 : Word) (s : State) : (startBlock dir w0 w1 s).cfgValid = s.cfgValid := rfl
@[simp] theorem startBlock_v0 (dir : Direction) (w0 w1 : Word) (s : State) : (startBlock dir w0 w1 s).v0 = w0 := rfl
@[simp] theorem startBlock_v1 (dir : Direction) (w0 w1 : Word) (s : State) : (startBlock dir w0 w1 s).v1 = w1 := rfl
@[simp] theorem startBlock_sum (dir : Direction) (w0 w1 : Word) (s : State) : (startBlock dir w0 w1 s).sum = initialSum dir s.actCycles := rfl
@[simp] theorem startBlock_cnt (dir : Direction) (w0 w1 : Word) (s : State) : (startBlock dir w0 w1 s).cnt = s.actCycles := rfl
@[simp] theorem startBlock_dir (dir : Direction) (w0 w1 : Word) (s : State) : (startBlock dir w0 w1 s).dir = dir := rfl
@[simp] theorem startBlock_fsm (dir : Direction) (w0 w1 : Word) (s : State) : (startBlock dir w0 w1 s).fsm = .run := rfl
@[simp] theorem startBlock_bbuf (dir : Direction) (w0 w1 : Word) (s : State) : (startBlock dir w0 w1 s).bbuf = s.bbuf := rfl
@[simp] theorem startBlock_bcount (dir : Direction) (w0 w1 : Word) (s : State) : (startBlock dir w0 w1 s).bcount = s.bcount := rfl
@[simp] theorem startBlock_wbuf (dir : Direction) (w0 w1 : Word) (s : State) : (startBlock dir w0 w1 s).wbuf = s.wbuf := rfl
@[simp] theorem startBlock_wcount (dir : Direction) (w0 w1 : Word) (s : State) : (startBlock dir w0 w1 s).wcount = s.wcount := rfl
@[simp] theorem startBlock_outW0 (dir : Direction) (w0 w1 : Word) (s : State) : (startBlock dir w0 w1 s).outW0 = s.outW0 := rfl
@[simp] theorem startBlock_outW1 (dir : Direction) (w0 w1 : Word) (s : State) : (startBlock dir w0 w1 s).outW1 = s.outW1 := rfl
@[simp] theorem startBlock_outB0 (dir : Direction) (w0 w1 : Word) (s : State) : (startBlock dir w0 w1 s).outB0 = s.outB0 := rfl
@[simp] theorem startBlock_outB1 (dir : Direction) (w0 w1 : Word) (s : State) : (startBlock dir w0 w1 s).outB1 = s.outB1 := rfl
@[simp] theorem startBlock_cmdLast (dir : Direction) (w0 w1 : Word) (s : State) : (startBlock dir w0 w1 s).cmdLast = s.cmdLast := rfl
@[simp] theorem startBlock_configOrder (dir : Direction) (w0 w1 : Word) (s : State) : (startBlock dir w0 w1 s).configOrder = s.configOrder := rfl
@[simp] theorem startBlock_configIrqEn (dir : Direction) (w0 w1 : Word) (s : State) : (startBlock dir w0 w1 s).configIrqEn = s.configIrqEn := rfl
@[simp] theorem startBlock_cyclesIn (dir : Direction) (w0 w1 : Word) (s : State) : (startBlock dir w0 w1 s).cyclesIn = s.cyclesIn := rfl
@[simp] theorem startBlock_done (dir : Direction) (w0 w1 : Word) (s : State) : (startBlock dir w0 w1 s).done = s.done := rfl
@[simp] theorem startBlock_err (dir : Direction) (w0 w1 : Word) (s : State) : (startBlock dir w0 w1 s).err = false := rfl
@[simp] theorem startBlock_ovr (dir : Direction) (w0 w1 : Word) (s : State) : (startBlock dir w0 w1 s).ovr = s.ovr := rfl
@[simp] theorem startBlock_errcode (dir : Direction) (w0 w1 : Word) (s : State) : (startBlock dir w0 w1 s).errcode = 0#4 := rfl
@[simp] theorem startBlock_pending (dir : Direction) (w0 w1 : Word) (s : State) : (startBlock dir w0 w1 s).pending = s.pending := rfl
@[simp] theorem startBlock_readLog (dir : Direction) (w0 w1 : Word) (s : State) : (startBlock dir w0 w1 s).readLog = s.readLog := rfl

/-! ### completionStep -/

@[simp] theorem completionStep_key (s : State) : (completionStep s).key = s.key := rfl
@[simp] theorem completionStep_actCycles (s : State) : (completionStep s).actCycles = s.actCycles := rfl
@[simp] theorem completionStep_actOrder (s : State) : (completionStep s).actOrder = s.actOrder := rfl
@[simp] theorem completionStep_cfgValid (s : State) : (completionStep s).cfgValid = s.cfgValid := rfl
@[simp] theorem completionStep_v0 (s : State) : (completionStep s).v0 = s.v0 := rfl
@[simp] theorem completionStep_v1 (s : State) : (completionStep s).v1 = s.v1 := rfl
@[simp] theorem completionStep_sum (s : State) : (completionStep s).sum = s.sum := rfl
@[simp] theorem completionStep_cnt (s : State) : (completionStep s).cnt = s.cnt := rfl
@[simp] theorem completionStep_dir (s : State) : (completionStep s).dir = s.dir := rfl
@[simp] theorem completionStep_fsm (s : State) : (completionStep s).fsm = .idle := rfl
@[simp] theorem completionStep_bbuf (s : State) : (completionStep s).bbuf = s.bbuf := rfl
@[simp] theorem completionStep_bcount (s : State) : (completionStep s).bcount = s.bcount := rfl
@[simp] theorem completionStep_wbuf (s : State) : (completionStep s).wbuf = s.wbuf := rfl
@[simp] theorem completionStep_wcount (s : State) : (completionStep s).wcount = s.wcount := rfl
@[simp] theorem completionStep_outW0 (s : State) : (completionStep s).outW0 = s.v0 := rfl
@[simp] theorem completionStep_outW1 (s : State) : (completionStep s).outW1 = s.v1 := rfl
@[simp] theorem completionStep_outB0 (s : State) : (completionStep s).outB0 = packLow (serialize s.actOrder s.v0 s.v1) := rfl
@[simp] theorem completionStep_outB1 (s : State) : (completionStep s).outB1 = packHigh (serialize s.actOrder s.v0 s.v1) := rfl
@[simp] theorem completionStep_cmdLast (s : State) : (completionStep s).cmdLast = s.cmdLast := rfl
@[simp] theorem completionStep_configOrder (s : State) : (completionStep s).configOrder = s.configOrder := rfl
@[simp] theorem completionStep_configIrqEn (s : State) : (completionStep s).configIrqEn = s.configIrqEn := rfl
@[simp] theorem completionStep_cyclesIn (s : State) : (completionStep s).cyclesIn = s.cyclesIn := rfl
@[simp] theorem completionStep_done (s : State) : (completionStep s).done = true := rfl
@[simp] theorem completionStep_err (s : State) : (completionStep s).err = s.err := rfl
@[simp] theorem completionStep_ovr (s : State) : (completionStep s).ovr = s.ovr := rfl
@[simp] theorem completionStep_errcode (s : State) : (completionStep s).errcode = s.errcode := rfl
@[simp] theorem completionStep_pending (s : State) : (completionStep s).pending = s.pending := rfl
@[simp] theorem completionStep_readLog (s : State) : (completionStep s).readLog = s.readLog := rfl

/-! ### cycleStep -/

@[simp] theorem cycleStep_key (s : State) : (cycleStep s).key = s.key := rfl
@[simp] theorem cycleStep_actCycles (s : State) : (cycleStep s).actCycles = s.actCycles := rfl
@[simp] theorem cycleStep_actOrder (s : State) : (cycleStep s).actOrder = s.actOrder := rfl
@[simp] theorem cycleStep_cfgValid (s : State) : (cycleStep s).cfgValid = s.cfgValid := rfl
@[simp] theorem cycleStep_v0 (s : State) : (cycleStep s).v0 = (cycleOf s.dir s.key (datapath s)).v0 := rfl
@[simp] theorem cycleStep_v1 (s : State) : (cycleStep s).v1 = (cycleOf s.dir s.key (datapath s)).v1 := rfl
@[simp] theorem cycleStep_sum (s : State) : (cycleStep s).sum = (cycleOf s.dir s.key (datapath s)).sum := rfl
@[simp] theorem cycleStep_cnt (s : State) : (cycleStep s).cnt = s.cnt - 1#32 := rfl
@[simp] theorem cycleStep_dir (s : State) : (cycleStep s).dir = s.dir := rfl
@[simp] theorem cycleStep_fsm (s : State) : (cycleStep s).fsm = s.fsm := rfl
@[simp] theorem cycleStep_bbuf (s : State) : (cycleStep s).bbuf = s.bbuf := rfl
@[simp] theorem cycleStep_bcount (s : State) : (cycleStep s).bcount = s.bcount := rfl
@[simp] theorem cycleStep_wbuf (s : State) : (cycleStep s).wbuf = s.wbuf := rfl
@[simp] theorem cycleStep_wcount (s : State) : (cycleStep s).wcount = s.wcount := rfl
@[simp] theorem cycleStep_outW0 (s : State) : (cycleStep s).outW0 = s.outW0 := rfl
@[simp] theorem cycleStep_outW1 (s : State) : (cycleStep s).outW1 = s.outW1 := rfl
@[simp] theorem cycleStep_outB0 (s : State) : (cycleStep s).outB0 = s.outB0 := rfl
@[simp] theorem cycleStep_outB1 (s : State) : (cycleStep s).outB1 = s.outB1 := rfl
@[simp] theorem cycleStep_cmdLast (s : State) : (cycleStep s).cmdLast = s.cmdLast := rfl
@[simp] theorem cycleStep_configOrder (s : State) : (cycleStep s).configOrder = s.configOrder := rfl
@[simp] theorem cycleStep_configIrqEn (s : State) : (cycleStep s).configIrqEn = s.configIrqEn := rfl
@[simp] theorem cycleStep_cyclesIn (s : State) : (cycleStep s).cyclesIn = s.cyclesIn := rfl
@[simp] theorem cycleStep_done (s : State) : (cycleStep s).done = s.done := rfl
@[simp] theorem cycleStep_err (s : State) : (cycleStep s).err = s.err := rfl
@[simp] theorem cycleStep_ovr (s : State) : (cycleStep s).ovr = s.ovr := rfl
@[simp] theorem cycleStep_errcode (s : State) : (cycleStep s).errcode = s.errcode := rfl
@[simp] theorem cycleStep_pending (s : State) : (cycleStep s).pending = s.pending := rfl
@[simp] theorem cycleStep_readLog (s : State) : (cycleStep s).readLog = s.readLog := rfl

/-! ### popTurn -/

@[simp] theorem popTurn_key (s : State) : (popTurn s).key = s.key := rfl
@[simp] theorem popTurn_actCycles (s : State) : (popTurn s).actCycles = s.actCycles := rfl
@[simp] theorem popTurn_actOrder (s : State) : (popTurn s).actOrder = s.actOrder := rfl
@[simp] theorem popTurn_cfgValid (s : State) : (popTurn s).cfgValid = s.cfgValid := rfl
@[simp] theorem popTurn_v0 (s : State) : (popTurn s).v0 = s.v0 := rfl
@[simp] theorem popTurn_v1 (s : State) : (popTurn s).v1 = s.v1 := rfl
@[simp] theorem popTurn_sum (s : State) : (popTurn s).sum = s.sum := rfl
@[simp] theorem popTurn_cnt (s : State) : (popTurn s).cnt = s.cnt := rfl
@[simp] theorem popTurn_dir (s : State) : (popTurn s).dir = s.dir := rfl
@[simp] theorem popTurn_fsm (s : State) : (popTurn s).fsm = s.fsm := rfl
@[simp] theorem popTurn_bbuf (s : State) : (popTurn s).bbuf = s.bbuf := rfl
@[simp] theorem popTurn_bcount (s : State) : (popTurn s).bcount = s.bcount := rfl
@[simp] theorem popTurn_wbuf (s : State) : (popTurn s).wbuf = s.wbuf := rfl
@[simp] theorem popTurn_wcount (s : State) : (popTurn s).wcount = s.wcount := rfl
@[simp] theorem popTurn_outW0 (s : State) : (popTurn s).outW0 = s.outW0 := rfl
@[simp] theorem popTurn_outW1 (s : State) : (popTurn s).outW1 = s.outW1 := rfl
@[simp] theorem popTurn_outB0 (s : State) : (popTurn s).outB0 = s.outB0 := rfl
@[simp] theorem popTurn_outB1 (s : State) : (popTurn s).outB1 = s.outB1 := rfl
@[simp] theorem popTurn_cmdLast (s : State) : (popTurn s).cmdLast = s.cmdLast := rfl
@[simp] theorem popTurn_configOrder (s : State) : (popTurn s).configOrder = s.configOrder := rfl
@[simp] theorem popTurn_configIrqEn (s : State) : (popTurn s).configIrqEn = s.configIrqEn := rfl
@[simp] theorem popTurn_cyclesIn (s : State) : (popTurn s).cyclesIn = s.cyclesIn := rfl
@[simp] theorem popTurn_done (s : State) : (popTurn s).done = s.done := rfl
@[simp] theorem popTurn_err (s : State) : (popTurn s).err = s.err := rfl
@[simp] theorem popTurn_ovr (s : State) : (popTurn s).ovr = s.ovr := rfl
@[simp] theorem popTurn_errcode (s : State) : (popTurn s).errcode = s.errcode := rfl
@[simp] theorem popTurn_pending (s : State) : (popTurn s).pending = s.pending.tail := rfl
@[simp] theorem popTurn_readLog (s : State) : (popTurn s).readLog = s.readLog := rfl

/-! ### clearStatus -/

@[simp] theorem clearStatus_key (v : Word) (s : State) : (clearStatus v s).key = s.key := rfl
@[simp] theorem clearStatus_actCycles (v : Word) (s : State) : (clearStatus v s).actCycles = s.actCycles := rfl
@[simp] theorem clearStatus_actOrder (v : Word) (s : State) : (clearStatus v s).actOrder = s.actOrder := rfl
@[simp] theorem clearStatus_cfgValid (v : Word) (s : State) : (clearStatus v s).cfgValid = s.cfgValid := rfl
@[simp] theorem clearStatus_v0 (v : Word) (s : State) : (clearStatus v s).v0 = s.v0 := rfl
@[simp] theorem clearStatus_v1 (v : Word) (s : State) : (clearStatus v s).v1 = s.v1 := rfl
@[simp] theorem clearStatus_sum (v : Word) (s : State) : (clearStatus v s).sum = s.sum := rfl
@[simp] theorem clearStatus_cnt (v : Word) (s : State) : (clearStatus v s).cnt = s.cnt := rfl
@[simp] theorem clearStatus_dir (v : Word) (s : State) : (clearStatus v s).dir = s.dir := rfl
@[simp] theorem clearStatus_fsm (v : Word) (s : State) : (clearStatus v s).fsm = s.fsm := rfl
@[simp] theorem clearStatus_bbuf (v : Word) (s : State) : (clearStatus v s).bbuf = s.bbuf := rfl
@[simp] theorem clearStatus_bcount (v : Word) (s : State) : (clearStatus v s).bcount = s.bcount := rfl
@[simp] theorem clearStatus_wbuf (v : Word) (s : State) : (clearStatus v s).wbuf = s.wbuf := rfl
@[simp] theorem clearStatus_wcount (v : Word) (s : State) : (clearStatus v s).wcount = s.wcount := rfl
@[simp] theorem clearStatus_outW0 (v : Word) (s : State) : (clearStatus v s).outW0 = s.outW0 := rfl
@[simp] theorem clearStatus_outW1 (v : Word) (s : State) : (clearStatus v s).outW1 = s.outW1 := rfl
@[simp] theorem clearStatus_outB0 (v : Word) (s : State) : (clearStatus v s).outB0 = s.outB0 := rfl
@[simp] theorem clearStatus_outB1 (v : Word) (s : State) : (clearStatus v s).outB1 = s.outB1 := rfl
@[simp] theorem clearStatus_cmdLast (v : Word) (s : State) : (clearStatus v s).cmdLast = s.cmdLast := rfl
@[simp] theorem clearStatus_configOrder (v : Word) (s : State) : (clearStatus v s).configOrder = s.configOrder := rfl
@[simp] theorem clearStatus_configIrqEn (v : Word) (s : State) : (clearStatus v s).configIrqEn = s.configIrqEn := rfl
@[simp] theorem clearStatus_cyclesIn (v : Word) (s : State) : (clearStatus v s).cyclesIn = s.cyclesIn := rfl
@[simp] theorem clearStatus_done (v : Word) (s : State) : (clearStatus v s).done = (s.done && !v.getLsbD 1) := rfl
@[simp] theorem clearStatus_err (v : Word) (s : State) : (clearStatus v s).err = s.err := rfl
@[simp] theorem clearStatus_ovr (v : Word) (s : State) : (clearStatus v s).ovr = (s.ovr && !v.getLsbD 8) := rfl
@[simp] theorem clearStatus_errcode (v : Word) (s : State) : (clearStatus v s).errcode = s.errcode := rfl
@[simp] theorem clearStatus_pending (v : Word) (s : State) : (clearStatus v s).pending = s.pending := rfl
@[simp] theorem clearStatus_readLog (v : Word) (s : State) : (clearStatus v s).readLog = s.readLog := rfl

/-! ### pushByte -/

@[simp] theorem pushByte_key (b : Byte) (s : State) : (pushByte b s).key = s.key := rfl
@[simp] theorem pushByte_actCycles (b : Byte) (s : State) : (pushByte b s).actCycles = s.actCycles := rfl
@[simp] theorem pushByte_actOrder (b : Byte) (s : State) : (pushByte b s).actOrder = s.actOrder := rfl
@[simp] theorem pushByte_cfgValid (b : Byte) (s : State) : (pushByte b s).cfgValid = s.cfgValid := rfl
@[simp] theorem pushByte_v0 (b : Byte) (s : State) : (pushByte b s).v0 = s.v0 := rfl
@[simp] theorem pushByte_v1 (b : Byte) (s : State) : (pushByte b s).v1 = s.v1 := rfl
@[simp] theorem pushByte_sum (b : Byte) (s : State) : (pushByte b s).sum = s.sum := rfl
@[simp] theorem pushByte_cnt (b : Byte) (s : State) : (pushByte b s).cnt = s.cnt := rfl
@[simp] theorem pushByte_dir (b : Byte) (s : State) : (pushByte b s).dir = s.dir := rfl
@[simp] theorem pushByte_fsm (b : Byte) (s : State) : (pushByte b s).fsm = s.fsm := rfl
@[simp] theorem pushByte_wbuf (b : Byte) (s : State) : (pushByte b s).wbuf = s.wbuf := rfl
@[simp] theorem pushByte_wcount (b : Byte) (s : State) : (pushByte b s).wcount = s.wcount := rfl
@[simp] theorem pushByte_outW0 (b : Byte) (s : State) : (pushByte b s).outW0 = s.outW0 := rfl
@[simp] theorem pushByte_outW1 (b : Byte) (s : State) : (pushByte b s).outW1 = s.outW1 := rfl
@[simp] theorem pushByte_outB0 (b : Byte) (s : State) : (pushByte b s).outB0 = s.outB0 := rfl
@[simp] theorem pushByte_outB1 (b : Byte) (s : State) : (pushByte b s).outB1 = s.outB1 := rfl
@[simp] theorem pushByte_cmdLast (b : Byte) (s : State) : (pushByte b s).cmdLast = s.cmdLast := rfl
@[simp] theorem pushByte_configOrder (b : Byte) (s : State) : (pushByte b s).configOrder = s.configOrder := rfl
@[simp] theorem pushByte_configIrqEn (b : Byte) (s : State) : (pushByte b s).configIrqEn = s.configIrqEn := rfl
@[simp] theorem pushByte_cyclesIn (b : Byte) (s : State) : (pushByte b s).cyclesIn = s.cyclesIn := rfl
@[simp] theorem pushByte_done (b : Byte) (s : State) : (pushByte b s).done = s.done := rfl
@[simp] theorem pushByte_err (b : Byte) (s : State) : (pushByte b s).err = s.err := rfl
@[simp] theorem pushByte_ovr (b : Byte) (s : State) : (pushByte b s).ovr = s.ovr := rfl
@[simp] theorem pushByte_errcode (b : Byte) (s : State) : (pushByte b s).errcode = s.errcode := rfl
@[simp] theorem pushByte_pending (b : Byte) (s : State) : (pushByte b s).pending = s.pending := rfl
@[simp] theorem pushByte_readLog (b : Byte) (s : State) : (pushByte b s).readLog = s.readLog := rfl

/-! ### pushWord -/

@[simp] theorem pushWord_key (w : Word) (s : State) : (pushWord w s).key = s.key := rfl
@[simp] theorem pushWord_actCycles (w : Word) (s : State) : (pushWord w s).actCycles = s.actCycles := rfl
@[simp] theorem pushWord_actOrder (w : Word) (s : State) : (pushWord w s).actOrder = s.actOrder := rfl
@[simp] theorem pushWord_cfgValid (w : Word) (s : State) : (pushWord w s).cfgValid = s.cfgValid := rfl
@[simp] theorem pushWord_v0 (w : Word) (s : State) : (pushWord w s).v0 = s.v0 := rfl
@[simp] theorem pushWord_v1 (w : Word) (s : State) : (pushWord w s).v1 = s.v1 := rfl
@[simp] theorem pushWord_sum (w : Word) (s : State) : (pushWord w s).sum = s.sum := rfl
@[simp] theorem pushWord_cnt (w : Word) (s : State) : (pushWord w s).cnt = s.cnt := rfl
@[simp] theorem pushWord_dir (w : Word) (s : State) : (pushWord w s).dir = s.dir := rfl
@[simp] theorem pushWord_fsm (w : Word) (s : State) : (pushWord w s).fsm = s.fsm := rfl
@[simp] theorem pushWord_bbuf (w : Word) (s : State) : (pushWord w s).bbuf = s.bbuf := rfl
@[simp] theorem pushWord_bcount (w : Word) (s : State) : (pushWord w s).bcount = s.bcount := rfl
@[simp] theorem pushWord_outW0 (w : Word) (s : State) : (pushWord w s).outW0 = s.outW0 := rfl
@[simp] theorem pushWord_outW1 (w : Word) (s : State) : (pushWord w s).outW1 = s.outW1 := rfl
@[simp] theorem pushWord_outB0 (w : Word) (s : State) : (pushWord w s).outB0 = s.outB0 := rfl
@[simp] theorem pushWord_outB1 (w : Word) (s : State) : (pushWord w s).outB1 = s.outB1 := rfl
@[simp] theorem pushWord_cmdLast (w : Word) (s : State) : (pushWord w s).cmdLast = s.cmdLast := rfl
@[simp] theorem pushWord_configOrder (w : Word) (s : State) : (pushWord w s).configOrder = s.configOrder := rfl
@[simp] theorem pushWord_configIrqEn (w : Word) (s : State) : (pushWord w s).configIrqEn = s.configIrqEn := rfl
@[simp] theorem pushWord_cyclesIn (w : Word) (s : State) : (pushWord w s).cyclesIn = s.cyclesIn := rfl
@[simp] theorem pushWord_done (w : Word) (s : State) : (pushWord w s).done = s.done := rfl
@[simp] theorem pushWord_err (w : Word) (s : State) : (pushWord w s).err = s.err := rfl
@[simp] theorem pushWord_ovr (w : Word) (s : State) : (pushWord w s).ovr = s.ovr := rfl
@[simp] theorem pushWord_errcode (w : Word) (s : State) : (pushWord w s).errcode = s.errcode := rfl
@[simp] theorem pushWord_pending (w : Word) (s : State) : (pushWord w s).pending = s.pending := rfl
@[simp] theorem pushWord_readLog (w : Word) (s : State) : (pushWord w s).readLog = s.readLog := rfl

end Sys2Proof.Machine
end

