-- ==== Sys2Proof/Laws/Feistel.lean ====
section
/-! SUPPORT. The arithmetic of the Feistel round processor and of the byte lanes: multiples of DELTA, the last of many
cycles, the subkeys as list entries, and the bytes of words put side by side. -/

namespace Sys2Proof.Machine

/-! ### Multiples of DELTA -/

theorem ofNat_delta_mul (n : Nat) : BitVec.ofNat 32 (0x9E3779B9 * n) = delta * BitVec.ofNat 32 n := by
  rw [BitVec.ofNat_mul]
  rfl

theorem ofNat_delta_mul_toNat (c : Word) : BitVec.ofNat 32 (0x9E3779B9 * c.toNat) = delta * c := by
  rw [ofNat_delta_mul, BitVec.ofNat_toNat, BitVec.setWidth_eq]

theorem delta_mul_succ (n : Nat) : delta * BitVec.ofNat 32 (n + 1) = delta * BitVec.ofNat 32 n + delta := by
  rw [BitVec.ofNat_add, BitVec.mul_add, BitVec.mul_one]

/-! ### Cycles -/

/-- Many cycles seen from the last one. -/
theorem encCycles_succ_last (key : Vector Word 4) (n : Nat) (d : Datapath) :
    encCycles key (n + 1) d = encCycle key (encCycles key n d) := by
  induction n generalizing d with
  | zero => rfl
  | succ n ih => rw [encCycles, ih]; rfl

/-- Many cycles seen from the last one. -/
theorem decCycles_succ_last (key : Vector Word 4) (n : Nat) (d : Datapath) :
    decCycles key (n + 1) d = decCycle key (decCycles key n d) := by
  induction n generalizing d with
  | zero => rfl
  | succ n ih => rw [decCycles, ih]; rfl

/-! ### Subkeys -/

theorem getD_toList (k : Vector Word 4) (n : Nat) (h : n < 4) : k.toList.getD n 0#32 = k[n] := by
  simp [List.getD_eq_getElem?_getD, h]

theorem subkeyA_eq_getD (k : Vector Word 4) (x : Word) :
    subkeyA k x = k.toList.getD (x &&& 3#32).toNat 0#32 := by
  have h : (x &&& 3#32).toNat = (x.extractLsb' 0 2).toNat := by
    simp [BitVec.toNat_and]; exact Nat.and_two_pow_sub_one_eq_mod _ 2
  rw [h, getD_toList k _ (x.extractLsb' 0 2).isLt]
  rfl

theorem subkeyB_eq_getD (k : Vector Word 4) (x : Word) :
    subkeyB k x = k.toList.getD ((x >>> 11) &&& 3#32).toNat 0#32 := by
  have h : ((x >>> 11) &&& 3#32).toNat = (x.extractLsb' 11 2).toNat := by
    simp [BitVec.toNat_and]; exact Nat.and_two_pow_sub_one_eq_mod _ 2
  rw [h, getD_toList k _ (x.extractLsb' 11 2).isLt]
  rfl

/-! ### Byte lanes -/

/-- The four bytes of four bytes put side by side. -/
theorem extract_append (a b c d : Byte) :
    (a ++ b ++ c ++ d : Word).extractLsb' 0 8 = d ∧ (a ++ b ++ c ++ d : Word).extractLsb' 8 8 = c ∧
      (a ++ b ++ c ++ d : Word).extractLsb' 16 8 = b ∧ (a ++ b ++ c ++ d : Word).extractLsb' 24 8 = a := by
  refine ⟨?_, ?_, ?_, ?_⟩ <;>
    (apply BitVec.eq_of_getLsbD_eq
     intro i hi
     simp only [BitVec.getLsbD_append, BitVec.getLsbD_extractLsb', hi]
     interval_cases i <;> simp)

/-- A word is its four bytes put side by side. -/
theorem append_extract (w : Word) :
    w.extractLsb' 24 8 ++ w.extractLsb' 16 8 ++ w.extractLsb' 8 8 ++ w.extractLsb' 0 8 = w := by
  apply BitVec.eq_of_getLsbD_eq
  intro i hi
  simp only [BitVec.getLsbD_append, BitVec.getLsbD_extractLsb']
  interval_cases i <;> simp

theorem serialize_low (ord : ByteOrder) (w0 w1 : Word) (i : Nat) (h : i < 4) :
    (serialize ord w0 w1)[i] = (bytesOf ord w0)[i] :=
  Vector.getElem_append_left (xs := bytesOf ord w0) (ys := bytesOf ord w1) h

theorem serialize_high (ord : ByteOrder) (w0 w1 : Word) (i : Nat) (h : i < 4) :
    (serialize ord w0 w1)[4 + i] = (bytesOf ord w1)[i] := by
  have e := Vector.getElem_append_right (xs := bytesOf ord w0) (ys := bytesOf ord w1) (i := 4 + i)
    (by omega) (by omega)
  simp only [Nat.add_sub_cancel_left] at e
  exact e

/-! ### The engine's shared operations -/

/-- What the start of a block command leaves (R205). -/
theorem startBlock_eq (dir : Direction) (w0 w1 : Word) (s : State) :
    startBlock dir w0 w1 s =
      { s with
        v0 := w0, v1 := w1, sum := initialSum dir s.actCycles, cnt := s.actCycles, dir := dir, fsm := .run
        err := false, errcode := 0#4 } := rfl

/-- What a completion leaves (R185, R206). -/
theorem completionStep_eq (s : State) :
    completionStep s =
      { s with
        outW0 := s.v0, outW1 := s.v1
        outB0 := packLow (serialize s.actOrder s.v0 s.v1), outB1 := packHigh (serialize s.actOrder s.v0 s.v1)
        fsm := .idle, done := true } := rfl

end Sys2Proof.Machine
end

