-- ==== Sys2Proof/Laws/PerInstr.lean ====
section
/-! SUPPORT. Statements made per instruction. `AccessDefined`: the one bus access by which the host issues the
instruction (spec/30_encoding.md R118) is one that the spec defines (spec/20_memory.md R90), whatever its operands. -/

namespace Sys2Proof.Laws.AccessDefined

open Sys2Proof

/-- The access that issues `i` is 32 bits wide at an aligned offset of the window. -/
def Statement (i : Instr) : Prop := (issue i).defined = true

theorem initKb : Statement .initKb := rfl
theorem initKw : Statement .initKw := rfl
theorem enc : Statement .enc := rfl
theorem dec : Statement .dec := rfl
theorem encw : Statement .encw := rfl
theorem decw : Statement .decw := rfl
theorem clrbuf : Statement .clrbuf := rfl
theorem illegalOp0 : Statement .illegalOp0 := rfl
theorem illegalOp8F (op : BitVec 3) : Statement (.illegalOp8F op) := rfl
theorem illegalRsv (op : BitVec 4) (rsv : BitVec 28) : Statement (.illegalRsv op rsv) := rfl
theorem rdCmd : Statement .rdCmd := rfl
theorem wrCmd (c : Word) : Statement (.wrCmd c) := rfl
theorem rdStatus : Statement .rdStatus := rfl
theorem wrStatus (v : Word) : Statement (.wrStatus v) := rfl
theorem rdConfig : Statement .rdConfig := rfl
theorem wrConfig (v : Word) : Statement (.wrConfig v) := rfl
theorem rdCyclesIn : Statement .rdCyclesIn := rfl
theorem wrCyclesIn (v : Word) : Statement (.wrCyclesIn v) := rfl
theorem rdByteIn : Statement .rdByteIn := rfl
theorem wrByteIn (v : Word) : Statement (.wrByteIn v) := rfl
theorem rdWordIn : Statement .rdWordIn := rfl
theorem wrWordIn (v : Word) : Statement (.wrWordIn v) := rfl
theorem rdOutW0 : Statement .rdOutW0 := rfl
theorem rdOutW1 : Statement .rdOutW1 := rfl
theorem rdOutB0 : Statement .rdOutB0 := rfl
theorem rdOutB1 : Statement .rdOutB1 := rfl
theorem rdActCycles : Statement .rdActCycles := rfl
theorem rdInfo : Statement .rdInfo := rfl
theorem wrOutW0 (v : Word) : Statement (.wrOutW0 v) := rfl
theorem wrOutW1 (v : Word) : Statement (.wrOutW1 v) := rfl
theorem wrOutB0 (v : Word) : Statement (.wrOutB0 v) := rfl
theorem wrOutB1 (v : Word) : Statement (.wrOutB1 v) := rfl
theorem wrActCycles (v : Word) : Statement (.wrActCycles v) := rfl
theorem wrInfo (v : Word) : Statement (.wrInfo v) := rfl
theorem rdRsvd30 : Statement .rdRsvd30 := rfl
theorem wrRsvd30 (v : Word) : Statement (.wrRsvd30 v) := rfl
theorem rdRsvd34 : Statement .rdRsvd34 := rfl
theorem wrRsvd34 (v : Word) : Statement (.wrRsvd34 v) := rfl
theorem rdRsvd38 : Statement .rdRsvd38 := rfl
theorem wrRsvd38 (v : Word) : Statement (.wrRsvd38 v) := rfl
theorem rdRsvd3C : Statement .rdRsvd3C := rfl
theorem wrRsvd3C (v : Word) : Statement (.wrRsvd3C v) := rfl

end Sys2Proof.Laws.AccessDefined
end

