-- ==== Sys2Proof/Laws/Step.lean ====
section
/-! SUPPORT. Said once: what a step can do, what an instruction can do, and how an accepted command can end. Later
proofs cite these and do not unfold `step`, `exec` or `accept` again. -/

namespace Sys2Proof.Machine

/-! ### Steps and runs -/

theorem step_nil {s : State} (h : s.pending = []) : step s = .next (engineTurn s) := by
  simp [step, h]

theorem step_engine {s : State} {rest : List Turn} (h : s.pending = .engine :: rest) :
    step s = .next (engineTurn { s with pending := rest }) := by
  simp [step, h, popTurn]

theorem step_reset {s : State} {rest : List Turn} (h : s.pending = .reset :: rest) :
    step s = .next (resetEngine { s with pending := rest }) := by
  simp [step, h, popTurn]

theorem step_access {s : State} {a : BusAccess} {rest : List Turn} {i : Instr} (h : s.pending = .access a :: rest)
    (hi : decodeAccess a = .ok i) : step s = exec i { s with pending := rest } := by
  simp [step, h, hi, popTurn]

theorem step_access_error {s : State} {a : BusAccess} {rest : List Turn} {e : AccessError}
    (h : s.pending = .access a :: rest) (he : decodeAccess a = .error e) :
    step s = .refused (.undefinedAccess e) := by
  simp [step, h, he]

/-- What a step that answers a next state can have done: an engine turn, a reset, or one instruction. -/
theorem step_next_cases {s t : State} (h : step s = .next t) :
    (s.pending = [] ∧ t = engineTurn s) ∨
    (∃ rest, s.pending = .engine :: rest ∧ t = engineTurn { s with pending := rest }) ∨
    (∃ rest, s.pending = .reset :: rest ∧ t = resetEngine { s with pending := rest }) ∨
    (∃ a rest i, s.pending = .access a :: rest ∧ decodeAccess a = .ok i ∧
      exec i { s with pending := rest } = .next t) := by
  cases hp : s.pending with
  | nil =>
    rw [step_nil hp] at h
    cases h
    exact .inl ⟨rfl, rfl⟩
  | cons turn rest =>
    cases turn with
    | engine =>
      rw [step_engine hp] at h
      cases h
      exact .inr (.inl ⟨rest, rfl, rfl⟩)
    | reset =>
      rw [step_reset hp] at h
      cases h
      exact .inr (.inr (.inl ⟨rest, rfl, rfl⟩))
    | access a =>
      cases hd : decodeAccess a with
      | ok i =>
        rw [step_access hp hd] at h
        exact .inr (.inr (.inr ⟨a, rest, i, rfl, hd, h⟩))
      | error e =>
        rw [step_access_error hp hd] at h
        cases h

@[simp] theorem runSteps_zero (s : State) : runSteps 0 s = .next s := rfl

theorem runSteps_succ_of_next {k : Nat} {s t : State} (h : step s = .next t) :
    runSteps (k + 1) s = runSteps k t := by
  have h' : Sys2Proof.core.step s = .next t := h
  simp only [runSteps, Host.Core.run, h']
  rfl

theorem runSteps_succ_of_refused {k : Nat} {s : State} {r : Refusal} (h : step s = .refused r) :
    runSteps (k + 1) s = .refused r := by
  have h' : Sys2Proof.core.step s = .refused r := h
  simp only [runSteps, Host.Core.run, h']
  rfl

/-- The first step of a run that got there. -/
theorem runSteps_succ_inv {k : Nat} {s t : State} (h : runSteps (k + 1) s = .next t) :
    ∃ u, step s = .next u ∧ runSteps k u = .next t := by
  cases hs : step s with
  | next u => exact ⟨u, rfl, (runSteps_succ_of_next hs).symm.trans h⟩
  | refused r => rw [runSteps_succ_of_refused hs] at h; cases h
  | fault f => cases f

theorem runSteps_add {j k : Nat} {s t : State} (h : runSteps j s = .next t) :
    runSteps (j + k) s = runSteps k t := by
  induction j generalizing s with
  | zero => cases h; rw [Nat.zero_add]
  | succ j ih =>
    obtain ⟨u, hu, h⟩ := runSteps_succ_inv h
    rw [Nat.add_right_comm, runSteps_succ_of_next hu, ih h]

/-! ### Instructions -/

/-- No instruction stops the machine. -/
theorem exec_next (i : Instr) (s : State) : ∃ t, exec i s = .next t := by
  cases i <;> exact ⟨_, rfl⟩

/-- A command word written while IDLE: its body runs after the word is recorded. -/
theorem issueCommand_idle {c : Word} {body : State → State} {s : State} (h : s.fsm = .idle) :
    issueCommand c body s = body (beginCommand c s) := by
  simp [issueCommand, h]

theorem issueCommand_run {c : Word} {body : State → State} {s : State} (h : s.fsm = .run) :
    issueCommand c body s = dropCommand s := by
  simp [issueCommand, h]

/-- How an accepted command word is carried out: the word `c` is recorded, and one of the eight bodies runs. -/
theorem exec_command_idle {i : Instr} {s t : State} (hi : issuesCommand i = true) (hs : s.fsm = .idle)
    (h : exec i s = .next t) :
    ∃ c,
      (commandOf i = .initKb ∧ t = initKbBody (beginCommand c s)) ∨
      (commandOf i = .initKw ∧ t = initKwBody (beginCommand c s)) ∨
      (commandOf i = .enc ∧ t = byteBlockBody .encipher (beginCommand c s)) ∨
      (commandOf i = .dec ∧ t = byteBlockBody .decipher (beginCommand c s)) ∨
      (commandOf i = .encw ∧ t = wordBlockBody .encipher (beginCommand c s)) ∨
      (commandOf i = .decw ∧ t = wordBlockBody .decipher (beginCommand c s)) ∨
      (commandOf i = .clrbuf ∧ t = clrbufBody (beginCommand c s)) ∨
      (commandOf i ∉ [Instr.initKb, .initKw, .enc, .dec, .encw, .decw, .clrbuf] ∧
        t = raiseErr .illegalCommand (beginCommand c s)) := by
  cases i with
  | wrCmd c =>
    refine ⟨c, ?_⟩
    simp only [exec, execWrCmd, hs, reduceCtorEq, if_false, Host.Outcome.next.injEq] at h
    subst h
    simp only [commandOf, decodeCommand, accept, rsvField, opField]
    by_cases hr : c.extractLsb' 4 28 = 0#28
    · simp only [hr, ne_eq, not_true_eq_false, if_false]
      generalize (c.extractLsb' 0 4).toNat = n
      rcases n with _ | _ | _ | _ | _ | _ | _ | _ | n <;> simp
    · simp only [ne_eq, hr, not_false_eq_true, if_true]
      simp
  | initKb => exact ⟨_, .inl ⟨rfl, by cases h; exact issueCommand_idle hs⟩⟩
  | initKw => exact ⟨_, .inr (.inl ⟨rfl, by cases h; exact issueCommand_idle hs⟩)⟩
  | enc => exact ⟨_, .inr (.inr (.inl ⟨rfl, by cases h; exact issueCommand_idle hs⟩))⟩
  | dec => exact ⟨_, .inr (.inr (.inr (.inl ⟨rfl, by cases h; exact issueCommand_idle hs⟩)))⟩
  | encw => exact ⟨_, .inr (.inr (.inr (.inr (.inl ⟨rfl, by cases h; exact issueCommand_idle hs⟩))))⟩
  | decw => exact ⟨_, .inr (.inr (.inr (.inr (.inr (.inl ⟨rfl, by cases h; exact issueCommand_idle hs⟩)))))⟩
  | clrbuf =>
    exact ⟨_, .inr (.inr (.inr (.inr (.inr (.inr (.inl ⟨rfl, by cases h; exact issueCommand_idle hs⟩))))))⟩
  | illegalOp0 | illegalOp8F op | illegalRsv op rsv =>
    exact ⟨_, .inr (.inr (.inr (.inr (.inr (.inr (.inr
      ⟨by simp [commandOf], by cases h; exact issueCommand_idle hs⟩))))))⟩
  | _ => simp [issuesCommand] at hi

/-! ### How the body of a command ends -/

theorem initKbBody_cases (s : State) :
    (s.bcount ≠ 16#8 ∧ initKbBody s = raiseErr .invalidKeyLength (consumeBytes s)) ∨
    (s.bcount = 16#8 ∧ legalCycles s.cyclesIn = false ∧
      initKbBody s = raiseErr .invalidCycleCount (consumeBytes s)) ∨
    (s.bcount = 16#8 ∧ legalCycles s.cyclesIn = true ∧
      initKbBody s = install (splitKey s.configOrder s.bbuf) s.cyclesIn s.configOrder (consumeBytes s)) := by
  unfold initKbBody
  split
  · exact .inl ⟨by assumption, rfl⟩
  · split <;> simp_all

theorem initKwBody_cases (s : State) :
    (s.wcount ≠ 4#8 ∧ initKwBody s = raiseErr .invalidKeyWords (consumeWords s)) ∨
    (s.wcount = 4#8 ∧ legalCycles s.cyclesIn = false ∧
      initKwBody s = raiseErr .invalidCycleCount (consumeWords s)) ∨
    (s.wcount = 4#8 ∧ legalCycles s.cyclesIn = true ∧
      initKwBody s = install s.wbuf s.cyclesIn s.configOrder (consumeWords s)) := by
  unfold initKwBody
  split
  · exact .inl ⟨by assumption, rfl⟩
  · split <;> simp_all

theorem byteBlockBody_cases (dir : Direction) (s : State) :
    (s.cfgValid = false ∧ byteBlockBody dir s = raiseErr .noKey (consumeBytes s)) ∨
    (s.cfgValid = true ∧ s.bcount ≠ 8#8 ∧ byteBlockBody dir s = raiseErr .invalidBlockLength (consumeBytes s)) ∨
    (s.cfgValid = true ∧ s.bcount = 8#8 ∧
      byteBlockBody dir s =
        startBlock dir (blockWord0 s.actOrder s.bbuf) (blockWord1 s.actOrder s.bbuf) (consumeBytes s)) := by
  unfold byteBlockBody
  split
  · rename_i h
    exact .inl ⟨by simpa using h, rfl⟩
  · split <;> simp_all

theorem wordBlockBody_cases (dir : Direction) (s : State) :
    (s.cfgValid = false ∧ wordBlockBody dir s = raiseErr .noKey (consumeWords s)) ∨
    (s.cfgValid = true ∧ s.wcount ≠ 2#8 ∧ wordBlockBody dir s = raiseErr .invalidBlockWords (consumeWords s)) ∨
    (s.cfgValid = true ∧ s.wcount = 2#8 ∧
      wordBlockBody dir s = startBlock dir s.wbuf[0] s.wbuf[1] (consumeWords s)) := by
  unfold wordBlockBody
  split
  · rename_i h
    exact .inl ⟨by simpa using h, rfl⟩
  · split <;> simp_all

/-- Which counts are legal, as numbers. -/
theorem legalCycles_iff (c : Word) : legalCycles c = true ↔ 1 ≤ c.toNat ∧ c.toNat < 2 ^ 31 := by
  have h := c.isLt
  simp only [legalCycles, Bool.and_eq_true, Bool.not_eq_eq_eq_not, Bool.not_true, bne_iff_ne, ne_eq,
    BitVec.getLsbD, Nat.testBit_eq_decide_div_mod_eq, decide_eq_false_iff_not, ← BitVec.toNat_inj, BitVec.toNat_ofNat]
  omega

/-! ### What an instruction can do, on the whole -/

/-- An instruction that brings no command word to CMD: it can change the buffers, the staging registers and the values
read, it can only lower DONE and OVR, and everything else it leaves alone. -/
theorem exec_other {i : Instr} {s t : State} (hi : issuesCommand i = false) (h : exec i s = .next t) :
    t = { s with
      bbuf := t.bbuf, bcount := t.bcount, wbuf := t.wbuf, wcount := t.wcount
      configOrder := t.configOrder, configIrqEn := t.configIrqEn, cyclesIn := t.cyclesIn
      done := t.done, ovr := t.ovr, readLog := t.readLog } ∧
    (t.done = true → s.done = true) ∧ (t.ovr = true → s.ovr = true) := by
  cases i <;> first
    | (simp [issuesCommand] at hi; done)
    | (cases h; refine ⟨rfl, id, id⟩)
    | (cases h; refine ⟨rfl, ?_, ?_⟩ <;> simp [clearStatus] <;> tauto)

theorem CommandError.code_ne_zero (e : CommandError) : e.code ≠ 0#4 := by cases e <;> decide

/-- How an accepted command can end: a report, the success of CLRBUF, an installed configuration, or a started block. -/
theorem exec_command_outcomes {i : Instr} {s t : State} (hi : issuesCommand i = true) (hs : s.fsm = .idle)
    (h : exec i s = .next t) :
    (∃ (e : CommandError) (c : Word) (bc wc : BitVec 8),
      t = { s with
        cmdLast := c, done := true, err := true, errcode := e.code, bcount := bc, wcount := wc }) ∨
    (commandOf i = .clrbuf ∧ ∃ c : Word,
      t = { s with
        cmdLast := c, done := true, err := false, errcode := 0#4, bcount := 0#8, wcount := 0#8 }) ∨
    (commandOf i ∈ [Instr.initKb, .initKw] ∧ legalCycles s.cyclesIn = true ∧
      ∃ (c : Word) (bc wc : BitVec 8) (k : Vector Word 4),
        t = { s with
          cmdLast := c, done := true, err := false, errcode := 0#4, bcount := bc, wcount := wc
          key := k, actCycles := s.cyclesIn, actOrder := s.configOrder, cfgValid := true }) ∨
    (commandOf i ∈ [Instr.enc, .dec, .encw, .decw] ∧ s.cfgValid = true ∧
      ∃ (dir : Direction) (c : Word) (bc wc : BitVec 8) (w0 w1 : Word),
        t = { s with
          cmdLast := c, done := false, err := false, errcode := 0#4, bcount := bc, wcount := wc
          v0 := w0, v1 := w1, sum := initialSum dir s.actCycles, cnt := s.actCycles, dir := dir, fsm := .run }) := by
  obtain ⟨c, hh⟩ := exec_command_idle hi hs h
  rcases hh with ⟨hc, rfl⟩ | ⟨hc, rfl⟩ | ⟨hc, rfl⟩ | ⟨hc, rfl⟩ | ⟨hc, rfl⟩ | ⟨hc, rfl⟩ | ⟨hc, rfl⟩ | ⟨_, rfl⟩
  · rcases initKbBody_cases (beginCommand c s) with ⟨_, e⟩ | ⟨_, _, e⟩ | ⟨_, hl, e⟩ <;> rw [e]
    · exact .inl ⟨_, c, _, _, rfl⟩
    · exact .inl ⟨_, c, _, _, rfl⟩
    · exact .inr (.inr (.inl ⟨by simp [hc], hl, c, _, _, _, rfl⟩))
  · rcases initKwBody_cases (beginCommand c s) with ⟨_, e⟩ | ⟨_, _, e⟩ | ⟨_, hl, e⟩ <;> rw [e]
    · exact .inl ⟨_, c, _, _, rfl⟩
    · exact .inl ⟨_, c, _, _, rfl⟩
    · exact .inr (.inr (.inl ⟨by simp [hc], hl, c, _, _, _, rfl⟩))
  · rcases byteBlockBody_cases .encipher (beginCommand c s) with ⟨_, e⟩ | ⟨_, _, e⟩ | ⟨hv, _, e⟩ <;> rw [e]
    · exact .inl ⟨_, c, _, _, rfl⟩
    · exact .inl ⟨_, c, _, _, rfl⟩
    · exact .inr (.inr (.inr ⟨by simp [hc], hv, _, c, _, _, _, _, rfl⟩))
  · rcases byteBlockBody_cases .decipher (beginCommand c s) with ⟨_, e⟩ | ⟨_, _, e⟩ | ⟨hv, _, e⟩ <;> rw [e]
    · exact .inl ⟨_, c, _, _, rfl⟩
    · exact .inl ⟨_, c, _, _, rfl⟩
    · exact .inr (.inr (.inr ⟨by simp [hc], hv, _, c, _, _, _, _, rfl⟩))
  · rcases wordBlockBody_cases .encipher (beginCommand c s) with ⟨_, e⟩ | ⟨_, _, e⟩ | ⟨hv, _, e⟩ <;> rw [e]
    · exact .inl ⟨_, c, _, _, rfl⟩
    · exact .inl ⟨_, c, _, _, rfl⟩
    · exact .inr (.inr (.inr ⟨by simp [hc], hv, _, c, _, _, _, _, rfl⟩))
  · rcases wordBlockBody_cases .decipher (beginCommand c s) with ⟨_, e⟩ | ⟨_, _, e⟩ | ⟨hv, _, e⟩ <;> rw [e]
    · exact .inl ⟨_, c, _, _, rfl⟩
    · exact .inl ⟨_, c, _, _, rfl⟩
    · exact .inr (.inr (.inr ⟨by simp [hc], hv, _, c, _, _, _, _, rfl⟩))
  · exact .inr (.inl ⟨hc, c, rfl⟩)
  · exact .inl ⟨_, c, _, _, rfl⟩

/-- No instruction touches the turns still to come. -/
theorem exec_pending {i : Instr} {s t : State} (h : exec i s = .next t) : t.pending = s.pending := by
  cases hc : issuesCommand i with
  | false => rw [(exec_other hc h).1]
  | true =>
    cases hf : s.fsm with
    | idle =>
      rcases exec_command_outcomes hc hf h with ⟨_, _, _, _, rfl⟩ | ⟨_, _, rfl⟩ | ⟨_, _, _, _, _, _, rfl⟩ |
        ⟨_, _, _, _, _, _, _, _, rfl⟩ <;> rfl
    | run =>
      cases i <;> first
        | (simp [issuesCommand] at hc; done)
        | (cases h; simp [issueCommand_run hf]; done)
        | (simp only [exec, execWrCmd, hf, if_true, Host.Outcome.next.injEq] at h; rw [← h]; rfl)

/-! ### Engine turns -/

theorem engineTurn_idle {s : State} (h : s.fsm = .idle) : engineTurn s = s := by
  simp [engineTurn, h]

theorem engineTurn_cycle {s : State} (h : s.fsm = .run) (hc : s.cnt ≠ 0#32) : engineTurn s = cycleStep s := by
  simp [engineTurn, h, hc]

theorem engineTurn_complete {s : State} (h : s.fsm = .run) (hc : s.cnt = 0#32) :
    engineTurn s = completionStep s := by
  simp [engineTurn, h, hc]

/-- What a turn of the engine can do. -/
theorem engineTurn_cases (s : State) :
    (s.fsm = .idle ∧ engineTurn s = s) ∨
    (s.fsm = .run ∧ s.cnt ≠ 0#32 ∧ engineTurn s = cycleStep s) ∨
    (s.fsm = .run ∧ s.cnt = 0#32 ∧ engineTurn s = completionStep s) := by
  cases h : s.fsm with
  | idle => exact .inl ⟨rfl, engineTurn_idle h⟩
  | run =>
    by_cases hc : s.cnt = 0#32
    · exact .inr (.inr ⟨rfl, hc, engineTurn_complete h hc⟩)
    · exact .inr (.inl ⟨rfl, hc, engineTurn_cycle h hc⟩)

end Sys2Proof.Machine
end

