-- ==== Sys2Proof/Tests/Slice0.lean ====
section
/-! SUPPORT. Tests on fixed values, each of one step or one pure function. The expected values are those of
spec/95_test_vectors.md (the case is named in the docstring) or are written out by hand from the rule named. The
second half shows, for each obligation with hypotheses, a state and operands that meet all of them. -/

namespace Sys2Proof.Tests

open Sys2Proof Sys2Proof.Machine

/-! ## Helpers -/

/-- The state a step or a meaning answers. -/
def got : Result → State
  | .next t => t
  | .fault _ => State.reset
  | .refused _ => State.reset

/-- One instruction carried out. -/
def after (i : Instr) (s : State) : State := got (exec i s)

/-- The value an instruction's read returns, if it is one. -/
def readOf (i : Instr) (s : State) : Option Word := (after i s).readLog.head?

/-- The standard key of spec/95_test_vectors.md. -/
def stdKey : Vector Word 4 := #v[0x00010203#32, 0x04050607#32, 0x08090A0B#32, 0x0C0D0E0F#32]

/-- The bytes 0x00 to 0x0F. -/
def bytes16 : Vector Byte 16 :=
  #v[0x00#8, 0x01#8, 0x02#8, 0x03#8, 0x04#8, 0x05#8, 0x06#8, 0x07#8,
    0x08#8, 0x09#8, 0x0A#8, 0x0B#8, 0x0C#8, 0x0D#8, 0x0E#8, 0x0F#8]

/-- The bytes 0x41 to 0x48, in the first eight cells. -/
def bytes8 : Vector Byte 16 :=
  #v[0x41#8, 0x42#8, 0x43#8, 0x44#8, 0x45#8, 0x46#8, 0x47#8, 0x48#8,
    0x00#8, 0x00#8, 0x00#8, 0x00#8, 0x00#8, 0x00#8, 0x00#8, 0x00#8]

/-- Reset, then sixteen bytes pushed. -/
def pushed16 : State := { State.reset with bbuf := bytes16, bcount := 16#8 }

/-- Reset, then the standard key's words pushed. -/
def pushedKey : State := { State.reset with wbuf := stdKey, wcount := 4#8 }

/-- The standard key installed, big-endian, for `n` cycles. -/
def keyed (n : Word) : State :=
  { State.reset with key := stdKey, actCycles := n, cfgValid := true, cyclesIn := n, cmdLast := 2#32, done := true }

/-- `keyed`, with 0x41 to 0x48 in the byte buffer and 41424344 45464748 in the word buffer. -/
def ready (n : Word) : State :=
  { keyed n with
    bbuf := bytes8, bcount := 8#8, wbuf := #v[0x41424344#32, 0x45464748#32, 0#32, 0#32], wcount := 2#8 }

/-- An encipher of 41424344 45464748 just accepted. -/
def running (n : Word) : State :=
  { keyed n with v0 := 0x41424344#32, v1 := 0x45464748#32, cnt := n, fsm := .run, done := false, cmdLast := 5#32 }

/-- `s` with the given turns to come. -/
def withTurns (s : State) (l : List Turn) : State := { s with pending := l }

/-! ## Well-formedness -/

/-- The one check: an `illegalRsv` without a reserved bit is no term of the table (R112). -/
theorem test_wf_refuses_illegalRsv_without_reserved_bit : Instr.wf (.illegalRsv 3#4 0#28) = false := by decide

theorem test_wf_accepts_illegalRsv_with_reserved_bit : Instr.wf (.illegalRsv 3#4 0x8000000#28) = true := by decide

/-- R90: 8-, 16- and 64-bit accesses, bursts, misaligned offsets and offsets outside the window are not defined. -/
theorem test_defined_refuses :
    (BusAccess.defined ⟨.byte, 4, .read⟩ = false) ∧ (BusAccess.defined ⟨.half, 4, .read⟩ = false) ∧
    (BusAccess.defined ⟨.double, 4, .read⟩ = false) ∧ (BusAccess.defined ⟨.burst, 4, .read⟩ = false) ∧
    (BusAccess.defined ⟨.word, 6, .read⟩ = false) ∧ (BusAccess.defined ⟨.word, 64, .read⟩ = false) ∧
    (BusAccess.defined ⟨.word, -4, .read⟩ = false) := by decide

/-! ## Decoding -/

/-- 30_encoding.md R111, R112, R116: every row of format CMD, by a command word written out from the table. -/
theorem test_decode_command_rows :
    decodeCommand 0x00000001#32 = .initKb ∧ decodeCommand 0x00000002#32 = .initKw ∧
    decodeCommand 0x00000003#32 = .enc ∧ decodeCommand 0x00000004#32 = .dec ∧
    decodeCommand 0x00000005#32 = .encw ∧ decodeCommand 0x00000006#32 = .decw ∧
    decodeCommand 0x00000007#32 = .clrbuf ∧ decodeCommand 0x00000000#32 = .illegalOp0 ∧
    decodeCommand 0x00000008#32 = .illegalOp8F 0#3 ∧ decodeCommand 0x0000000F#32 = .illegalOp8F 7#3 ∧
    decodeCommand 0x00000011#32 = .illegalRsv 1#4 1#28 ∧
    decodeCommand 0x80000003#32 = .illegalRsv 3#4 0x8000000#28 := by decide

/-- 30_encoding.md R113: every read row, by its pattern 0b0 ++ OFF. -/
theorem test_decode_read_rows :
    decodeTableWord 8 0b0000000 = some .rdCmd ∧ decodeTableWord 8 0b0000100 = some .rdStatus ∧
    decodeTableWord 8 0b0001000 = some .rdConfig ∧ decodeTableWord 8 0b0001100 = some .rdCyclesIn ∧
    decodeTableWord 8 0b0010000 = some .rdByteIn ∧ decodeTableWord 8 0b0010100 = some .rdWordIn ∧
    decodeTableWord 8 0b0011000 = some .rdOutW0 ∧ decodeTableWord 8 0b0011100 = some .rdOutW1 ∧
    decodeTableWord 8 0b0100000 = some .rdOutB0 ∧ decodeTableWord 8 0b0100100 = some .rdOutB1 ∧
    decodeTableWord 8 0b0101000 = some .rdActCycles ∧ decodeTableWord 8 0b0101100 = some .rdInfo ∧
    decodeTableWord 8 0b0110000 = some .rdRsvd30 ∧ decodeTableWord 8 0b0110100 = some .rdRsvd34 ∧
    decodeTableWord 8 0b0111000 = some .rdRsvd38 ∧ decodeTableWord 8 0b0111100 = some .rdRsvd3C := by decide

/-- 30_encoding.md R113: every write row, by its pattern 0b1 ++ OFF with the data word 0x80000001 above it. -/
theorem test_decode_write_rows :
    decodeTableWord 40 0x8000000140 = some (.wrCmd 0x80000001#32) ∧
    decodeTableWord 40 0x8000000144 = some (.wrStatus 0x80000001#32) ∧
    decodeTableWord 40 0x8000000148 = some (.wrConfig 0x80000001#32) ∧
    decodeTableWord 40 0x800000014C = some (.wrCyclesIn 0x80000001#32) ∧
    decodeTableWord 40 0x8000000150 = some (.wrByteIn 0x80000001#32) ∧
    decodeTableWord 40 0x8000000154 = some (.wrWordIn 0x80000001#32) ∧
    decodeTableWord 40 0x8000000158 = some (.wrOutW0 0x80000001#32) ∧
    decodeTableWord 40 0x800000015C = some (.wrOutW1 0x80000001#32) ∧
    decodeTableWord 40 0x8000000160 = some (.wrOutB0 0x80000001#32) ∧
    decodeTableWord 40 0x8000000164 = some (.wrOutB1 0x80000001#32) ∧
    decodeTableWord 40 0x8000000168 = some (.wrActCycles 0x80000001#32) ∧
    decodeTableWord 40 0x800000016C = some (.wrInfo 0x80000001#32) ∧
    decodeTableWord 40 0x8000000170 = some (.wrRsvd30 0x80000001#32) ∧
    decodeTableWord 40 0x8000000174 = some (.wrRsvd34 0x80000001#32) ∧
    decodeTableWord 40 0x8000000178 = some (.wrRsvd38 0x80000001#32) ∧
    decodeTableWord 40 0x800000017C = some (.wrRsvd3C 0x80000001#32) := by decide

/-- R90: accesses that decode to nothing, each under its name. -/
theorem test_decode_refuses :
    decodeAccess ⟨.byte, 0x10, .write 0x41#32⟩ = .error .accessWidth ∧
    decodeAccess ⟨.word, 0x05, .read⟩ = .error .misalignedOffset ∧
    decodeAccess ⟨.word, 0x3E, .write 0#32⟩ = .error .misalignedOffset ∧
    decodeAccess ⟨.word, 0x40, .read⟩ = .error .outsideWindow ∧
    decodeAccess ⟨.word, -4, .read⟩ = .error .outsideWindow ∧
    decodeAccess ⟨.half, 0x41, .read⟩ = .error .accessWidth := ⟨rfl, rfl, rfl, rfl, rfl, rfl⟩

/-- R113: a set bit 7 of a BUSOP byte is outside the pattern, and an unaligned pattern is no row. -/
theorem test_decode_table_word_refuses :
    decodeTableWord 8 0x84 = none ∧ decodeTableWord 8 0x01 = none ∧ decodeTableWord 8 0x7E = none := by decide

/-! ## The step -/

/-- A write of CYCLES_IN (pattern 0x4C, data 5) and the command word 8: a table word put next is what the next step
runs. -/
theorem test_step_runs_fetch_word :
    (got (step (State.reset.withFetchWord 40 0x000000054C))).cyclesIn = 5#32 ∧
    (got (step (State.reset.withFetchWord 32 0x00000008))).errcode = 7#4 := by decide

/-- R90: a step over an undefined access is refused by name. -/
theorem test_step_refuses_undefined_access :
    step (withTurns State.reset [.access ⟨.byte, 0x10, .write 0x41#32⟩]) =
      .refused (.undefinedAccess .accessWidth) := rfl

/-- P7 line 6, L2.15: reset in the middle of a run. -/
theorem test_step_reset_during_run :
    got (step (withTurns (running 32#32) [.reset, .engine])) = withTurns State.reset [.engine] := by decide

/-! ## Reads -/

/-- H1 to H7: the reads after reset. -/
theorem test_reads_after_reset :
    readOf .rdStatus State.reset = some 0#32 ∧ readOf .rdConfig State.reset = some 0#32 ∧
    readOf .rdCyclesIn State.reset = some 0x00000020#32 ∧ readOf .rdCmd State.reset = some 0#32 ∧
    readOf .rdInfo State.reset = some 0x00000810#32 ∧ readOf .rdActCycles State.reset = some 0#32 ∧
    readOf .rdOutW0 State.reset = some 0#32 ∧ readOf .rdOutW1 State.reset = some 0#32 ∧
    readOf .rdOutB0 State.reset = some 0#32 ∧ readOf .rdOutB1 State.reset = some 0#32 := by decide

/-- P1 lines 9 to 12, P5 line 11: the outputs and CMD are read each from its own register. -/
theorem test_reads_each_register :
    let s := { keyed 3#32 with
      outW0 := 0xDEE9D4D8#32, outW1 := 0xF7131ED9#32, outB0 := 0xD8D4E9DE#32, outB1 := 0xD91E13F7#32 }
    readOf .rdOutW0 s = some 0xDEE9D4D8#32 ∧ readOf .rdOutW1 s = some 0xF7131ED9#32 ∧
    readOf .rdOutB0 s = some 0xD8D4E9DE#32 ∧ readOf .rdOutB1 s = some 0xD91E13F7#32 ∧
    readOf .rdActCycles s = some 3#32 ∧ readOf .rdCmd s = some 2#32 := by decide

/-- H8, H21, R262: BYTE_IN, WORD_IN and the reserved offsets read as 0 whatever was pushed. -/
theorem test_reads_zero :
    readOf .rdByteIn pushed16 = some 0#32 ∧ readOf .rdWordIn pushedKey = some 0#32 ∧
    readOf .rdRsvd30 pushed16 = some 0#32 ∧ readOf .rdRsvd34 pushed16 = some 0#32 ∧
    readOf .rdRsvd38 pushed16 = some 0#32 ∧ readOf .rdRsvd3C pushed16 = some 0#32 := by decide

/-- H13: three bytes and two words pushed. K2: configured little-endian. P5 line 7: busy with OVR. B17: NoKey. -/
theorem test_status_words :
    readOf .rdStatus { State.reset with bcount := 3#8, wcount := 2#8 } = some 0x02030000#32 ∧
    readOf .rdStatus { keyed 32#32 with actOrder := .le } = some 0x00000602#32 ∧
    readOf .rdStatus { running 1#32 with ovr := true } = some 0x00000301#32 ∧
    readOf .rdStatus { State.reset with done := true, err := true, errcode := 6#4 } = some 0x00000066#32 := by decide

/-! ## Writes -/

/-- H10, H11: reserved bits of CONFIG read 0, and ACT_ORDER does not follow CONFIG_ORDER. -/
theorem test_config_write :
    readOf .rdConfig (after (.wrConfig 0xFFFFFFFF#32) State.reset) = some 3#32 ∧
    readOf .rdConfig (after (.wrConfig 0xFFFFFFFE#32) State.reset) = some 2#32 ∧
    readOf .rdStatus (after (.wrConfig 1#32) State.reset) = some 0#32 := by decide

/-- H12. -/
theorem test_cycles_in_write :
    readOf .rdCyclesIn (after (.wrCyclesIn 0xFFFFFFFF#32) State.reset) = some 0xFFFFFFFF#32 := by decide

/-- H17, H18, H19, O2: what each W1C bit clears. -/
theorem test_status_write :
    statusWord (after (.wrStatus 0x00000002#32) (keyed 32#32)) = 0x00000200#32 ∧
    statusWord (after (.wrStatus 0xFFFFFFFF#32) { State.reset with done := true, err := true, errcode := 1#4 }) =
      0x00000014#32 ∧
    statusWord (after (.wrStatus 0x00000000#32) (keyed 32#32)) = 0x00000202#32 ∧
    statusWord (after (.wrStatus 0x00000100#32) { keyed 1#32 with ovr := true }) = 0x00000202#32 := by decide

/-- H9: only bits 7:0 are stored. -/
theorem test_byte_in_low_byte :
    (after (.wrByteIn 0x1234ABCD#32) State.reset).bbuf[0] = 0xCD#8 ∧
    (after (.wrByteIn 0x1234ABCD#32) State.reset).bcount = 1#8 := by decide

/-- L2.11: the 16th byte is the last one stored, the 17th is only counted, and the count stops at 255. -/
theorem test_byte_in_edges :
    (after (.wrByteIn 0xAA#32) { pushed16 with bcount := 15#8 }).bbuf[15] = 0xAA#8 ∧
    after (.wrByteIn 0xAA#32) pushed16 = { pushed16 with bcount := 17#8 } ∧
    after (.wrByteIn 0xAA#32) { pushed16 with bcount := 254#8 } = { pushed16 with bcount := 255#8 } ∧
    after (.wrByteIn 0xAA#32) { pushed16 with bcount := 255#8 } = { pushed16 with bcount := 255#8 } := by decide

/-- L2.11, H15: the 4th word is the last one stored, the 5th is only counted, and the count stops at 255. -/
theorem test_word_in_edges :
    (after (.wrWordIn 0xAAAAAAAA#32) { pushedKey with wcount := 3#8 }).wbuf[3] = 0xAAAAAAAA#32 ∧
    after (.wrWordIn 0xAAAAAAAA#32) pushedKey = { pushedKey with wcount := 5#8 } ∧
    after (.wrWordIn 0xAAAAAAAA#32) { pushedKey with wcount := 255#8 } = { pushedKey with wcount := 255#8 } := by decide

/-- H20, H21: writes of read-only registers and of reserved offsets. -/
theorem test_ignored_writes :
    after (.wrOutW0 0xFFFFFFFF#32) pushed16 = pushed16 ∧ after (.wrOutW1 0xFFFFFFFF#32) pushed16 = pushed16 ∧
    after (.wrOutB0 0xFFFFFFFF#32) pushed16 = pushed16 ∧ after (.wrOutB1 0xFFFFFFFF#32) pushed16 = pushed16 ∧
    after (.wrActCycles 5#32) pushed16 = pushed16 ∧ after (.wrInfo 0#32) pushed16 = pushed16 ∧
    after (.wrRsvd30 0xFFFFFFFF#32) pushed16 = pushed16 ∧ after (.wrRsvd34 0xFFFFFFFF#32) pushed16 = pushed16 ∧
    after (.wrRsvd38 0xFFFFFFFF#32) pushed16 = pushed16 ∧
    after (.wrRsvd3C 0xFFFFFFFF#32) pushed16 = pushed16 := by decide

/-! ## Commands -/

/-- H22 to H26: illegal words through CMD and through their rows. -/
theorem test_illegal_words :
    statusWord (after (.wrCmd 0x00000013#32) State.reset) = 0x00000076#32 ∧
    (after (.wrCmd 0x00000013#32) State.reset).cmdLast = 0x00000013#32 ∧
    statusWord (after (.wrCmd 0x80000003#32) State.reset) = 0x00000076#32 ∧
    statusWord (after .illegalOp0 State.reset) = 0x00000076#32 ∧
    statusWord (after (.illegalOp8F 0#3) State.reset) = 0x00000076#32 ∧
    (after (.illegalOp8F 7#3) State.reset).cmdLast = 0x0000000F#32 ∧
    (after (.illegalRsv 3#4 0x8000000#28) State.reset).cmdLast = 0x80000003#32 := by decide

/-- H27: an illegal word consumes no buffer. E4: the reserved bits are looked at before OP. -/
theorem test_illegal_words_consume_nothing :
    statusWord (after (.wrCmd 0x00000008#32) { State.reset with bcount := 5#8 }) = 0x00050076#32 ∧
    statusWord (after (.wrCmd 0x00000011#32) { pushed16 with bcount := 15#8 }) = 0x000F0076#32 := by decide

/-- K1, K2: INIT_KB in both byte orders. -/
theorem test_init_kb :
    statusWord (after .initKb pushed16) = 0x00000202#32 ∧ (after .initKb pushed16).key = stdKey ∧
    statusWord (after .initKb { pushed16 with configOrder := .le }) = 0x00000602#32 ∧
    (after .initKb { pushed16 with configOrder := .le }).key =
      #v[0x03020100#32, 0x07060504#32, 0x0B0A0908#32, 0x0F0E0D0C#32] := by decide

/-- K5, K9, K12, K18: INIT_KB refuses, and the old key stays. -/
theorem test_init_kb_failures :
    statusWord (after .initKb { pushed16 with bcount := 17#8 }) = 0x00000016#32 ∧
    statusWord (after .initKb { pushed16 with cyclesIn := 0xFFFFFFFF#32 }) = 0x00000036#32 ∧
    statusWord (after .initKb { pushed16 with bcount := 15#8, cyclesIn := 0#32 }) = 0x00000016#32 ∧
    statusWord (after .initKb { keyed 32#32 with bcount := 15#8 }) = 0x00000216#32 ∧
    (after .initKb { keyed 32#32 with bcount := 15#8 }).key = stdKey := by decide

/-- K13, K14: INIT_KW takes the words as they are in both byte orders. -/
theorem test_init_kw :
    (after .initKw pushedKey).key = stdKey ∧
    statusWord (after .initKw { pushedKey with configOrder := .le }) = 0x00000602#32 ∧
    (after .initKw { pushedKey with configOrder := .le }).key = stdKey := by decide

/-- K15, K16, K17, E3. -/
theorem test_init_kw_failures :
    statusWord (after .initKw { pushedKey with wcount := 3#8 }) = 0x00000026#32 ∧
    statusWord (after .initKw { pushedKey with wcount := 5#8 }) = 0x00000026#32 ∧
    statusWord (after .initKw { pushedKey with cyclesIn := 0#32 }) = 0x00000036#32 ∧
    statusWord (after .initKw { pushedKey with wcount := 3#8, cyclesIn := 0xFFFFFFFF#32 }) = 0x00000026#32 := by decide

/-- H28, S1, S2: ENC loads the block in the active order. -/
theorem test_enc :
    statusWord (after .enc { ready 32#32 with wcount := 0#8 }) = 0x00000201#32 ∧
    (after .enc (ready 32#32)).v0 = 0x41424344#32 ∧ (after .enc (ready 32#32)).sum = 0#32 ∧
    (after .enc { ready 32#32 with actOrder := .le }).v1 = 0x48474645#32 := by decide

/-- L2.2: DEC starts from DELTA × 32. B22: 16 bytes are too many. -/
theorem test_dec :
    (after .dec (ready 32#32)).sum = 0xC6EF3720#32 ∧ (after .dec (ready 32#32)).v1 = 0x45464748#32 ∧
    statusWord (after .dec { keyed 32#32 with bcount := 16#8 }) = 0x00000246#32 := by decide

/-- B9: ENCW takes the words as they are in little-endian order too. B24: one word is too few. -/
theorem test_encw :
    (after .encw { ready 32#32 with actOrder := .le }).v0 = 0x41424344#32 ∧
    (after .encw (ready 3#32)).cnt = 3#32 ∧
    statusWord (after .encw { keyed 32#32 with wcount := 1#8 }) = 0x00000256#32 := by decide

/-- L2.2 (33 cycles): DECW. B25: three words are too many. -/
theorem test_decw :
    (after .decw (ready 33#32)).sum = 0x6526B0D9#32 ∧ (after .decw (ready 33#32)).dir = .decipher ∧
    statusWord (after .decw { keyed 32#32 with wcount := 3#8 }) = 0x00000256#32 := by decide

/-- B17, B18, B19: NoKey comes before the length. -/
theorem test_no_key :
    statusWord (after .enc { State.reset with bcount := 8#8 }) = 0x00000066#32 ∧
    statusWord (after .dec { State.reset with bcount := 7#8 }) = 0x00000066#32 ∧
    statusWord (after .encw { State.reset with wcount := 2#8 }) = 0x00000066#32 ∧
    statusWord (after .decw State.reset) = 0x00000066#32 := by decide

/-- H16, E5: CLRBUF empties both buffers and clears an old report. -/
theorem test_clrbuf :
    statusWord (after .clrbuf { State.reset with bcount := 3#8, wcount := 1#8 }) = 0x00000002#32 ∧
    statusWord (after .clrbuf { keyed 32#32 with err := true, errcode := 1#4 }) = 0x00000202#32 := by decide

/-- O1: a command word written while a block command runs. -/
theorem test_command_while_busy :
    statusWord (after .initKb (running 1#32)) = 0x00000301#32 ∧
    after (.wrCmd 0x00000013#32) (running 1#32) = { running 1#32 with ovr := true } := by decide

/-! ## The engine and the byte lanes -/

/-- L2.1: the mixing function. The first value tells a logical from a rotating shift, the second the XOR from an OR. -/
theorem test_mix :
    mix 0x80000000#32 = 0x84000000#32 ∧ mix 0x12345678#32 = 0x36091BAB#32 ∧ mix 0x9E3779B9#32 = 0x85BD9A16#32 ∧
    mix 0xFFFFFFFF#32 = 0xF800000E#32 := by decide

/-- L2.3: one encipher cycle, and the decipher cycle that undoes it. -/
theorem test_cycles :
    encCycle stdKey ⟨0x41424344#32, 0x45464748#32, 0#32⟩ = ⟨0xDCD7CF45#32, 0x477CE5EF#32, 0x9E3779B9#32⟩ ∧
    decCycle stdKey ⟨0xDCD7CF45#32, 0x477CE5EF#32, 0x9E3779B9#32⟩ = ⟨0x41424344#32, 0x45464748#32, 0#32⟩ := by decide

/-- L2.4, cycle 2 of L2.5: the second cycle takes the subkeys 1 and 2. -/
theorem test_second_cycle :
    encCycle stdKey ⟨0xDCD7CF45#32, 0x477CE5EF#32, 0x9E3779B9#32⟩ =
      ⟨0xFC26AF53#32, 0xCD4278CF#32, 0x3C6EF372#32⟩ := by decide

/-- V8: a whole encipher of one cycle. -/
theorem test_encipher :
    encipher #v[1#32, 2#32, 4#32, 8#32] (0x01234567#32, 0x89ABCDEF#32) 1 = (0x29C093F6#32, 0xE2DC8423#32) := by decide

/-- B15: a whole decipher of one cycle. -/
theorem test_decipher :
    decipher #v[0#32, 0#32, 0#32, 0#32] (0#32, 0#32) 1 = (0x7EB15977#32, 0x61C88647#32) := by decide

/-- L2.5, row 1: one cycle step of the machine. -/
theorem test_engine_cycle_step :
    got (step (withTurns (running 32#32) [.engine])) =
      { running 32#32 with v0 := 0xDCD7CF45#32, v1 := 0x477CE5EF#32, sum := 0x9E3779B9#32, cnt := 31#32 } := by decide

/-- S7 and B9: the completion step in both byte orders. -/
theorem test_engine_completion_step :
    let s := { running 32#32 with v0 := 0x497DF3D0#32, v1 := 0x72612CB5#32, cnt := 0#32 }
    (got (step s)).outB0 = 0xD0F37D49#32 ∧ (got (step s)).outB1 = 0xB52C6172#32 ∧
    statusWord (got (step s)) = 0x00000202#32 ∧
    (got (step { s with actOrder := .le })).outB0 = 0x497DF3D0#32 := by decide

/-- S1 to S4. -/
theorem test_byte_lanes :
    wordOf .be 0x41#8 0x42#8 0x43#8 0x44#8 = 0x41424344#32 ∧ wordOf .le 0x41#8 0x42#8 0x43#8 0x44#8 = 0x44434241#32 ∧
    bytesOf .be 0x12345678#32 = #v[0x12#8, 0x34#8, 0x56#8, 0x78#8] ∧
    bytesOf .le 0x12345678#32 = #v[0x78#8, 0x56#8, 0x34#8, 0x12#8] := by decide

/-- O3: the IRQ line after `WR CONFIG, 2`, after a completion, and after `WR CONFIG, 0`. -/
theorem test_irq :
    irq (after (.wrConfig 2#32) State.reset) = false ∧ irq (after (.wrConfig 2#32) (keyed 32#32)) = true ∧
    irq (after (.wrConfig 0#32) { keyed 32#32 with configIrqEn := true }) = false := by decide

/-- R120: the operands of SETCFG and ACK. -/
theorem test_host_notation :
    setCfg .le true = .wrConfig 3#32 ∧ setCfg .be true = .wrConfig 2#32 ∧ acknowledge = .wrStatus 0x00000102#32 ∧
    waitOver 0x00000202#32 = true ∧ waitOver 0x00000201#32 = false := by decide

/-! ## Witnesses: the hypotheses of each obligation can be met -/

theorem witness_DecodingAnEncodedInstructionGivesItBack : Instr.wf (.illegalRsv 15#4 1#28) = true := by decide

theorem witness_EveryEncodedFormHasOneMeaning :
    decode (.command 0x00000010#32) = .ok (.illegalRsv 0#4 1#28) ∧ decode (readAt 0x3C) = .ok .rdRsvd3C :=
  ⟨rfl, rfl⟩

theorem witness_PatternsAreDefinedIffAligned :
    decodeBusop 0x7C#7 5#32 = .ok (.wrRsvd3C 5#32) ∧ decodeBusop 0x3C#7 5#32 = .ok .rdRsvd3C ∧
    (∃ p q : BitVec 7, decodeBusop p 5#32 = .ok .rdCmd ∧ decodeBusop q 6#32 = .ok .rdCmd) :=
  ⟨rfl, rfl, 0#7, 0#7, rfl, rfl⟩

theorem witness_StepRunsTheDecodedInstruction :
    (withTurns State.reset [.access ⟨.word, 0x3C, .read⟩]).pending = .access ⟨.word, 0x3C, .read⟩ :: [] ∧
    decodeAccess ⟨.word, 0x3C, .read⟩ = .ok .rdRsvd3C := ⟨rfl, rfl⟩

theorem witness_IssuingAnInstructionRunsIt :
    Instr.wf .initKb = true ∧
    (withTurns State.reset [.access (issue .initKb), .reset]).pending = .access (issue .initKb) :: [.reset] :=
  ⟨rfl, rfl⟩

/-- Both clauses at the edges of the window: −1 and 64 outside, 0 and 60 inside, 2 misaligned. -/
theorem witness_OnlyDefinedAccessesHaveAMeaning :
    step (withTurns State.reset [.access ⟨.word, -1, .read⟩]) = .refused (.undefinedAccess .outsideWindow) ∧
    step (withTurns State.reset [.access ⟨.word, 64, .read⟩]) = .refused (.undefinedAccess .outsideWindow) ∧
    step (withTurns State.reset [.access ⟨.word, 2, .read⟩]) = .refused (.undefinedAccess .misalignedOffset) ∧
    step (withTurns State.reset [.access ⟨.double, 0, .read⟩]) = .refused (.undefinedAccess .accessWidth) ∧
    (∃ t, step (withTurns State.reset [.access ⟨.word, 0, .read⟩]) = .next t) ∧
    (∃ t, step (withTurns State.reset [.access ⟨.word, 60, .write 7#32⟩]) = .next t) :=
  ⟨rfl, rfl, rfl, rfl, ⟨_, rfl⟩, ⟨_, rfl⟩⟩

/-- Below the window: the last address before it, wherever XTEA_BASE is not 0. Where it is 0 there is none, and the
model gives XTEA_BASE no value. The step is the refusal, so the clause's conclusion is met with its hypothesis. -/
theorem witness_TheWindowStandsAtXteaBase_below (h : 0 < Config.xteaBase) :
    Config.xteaBase - 1 < Config.xteaBase ∧
    Config.offsetOf (Config.xteaBase - 1) = -1 ∧
    step (withTurns State.reset [.access (accessAt .word (Config.xteaBase - 1) .read)]) =
      .refused (.undefinedAccess .outsideWindow) := by
  have e : Config.offsetOf (Config.xteaBase - 1) = -1 := by
    unfold Config.offsetOf
    omega
  refine ⟨by omega, e, step_access_error rfl ?_⟩
  rw [accessAt, e]
  rfl

/-- The premise of the witness before it is that some block of the bus is below the window: it holds of every base but
0, a base of 64 among them, and the access one below such a base has the offset -1. -/
theorem witness_offset_below_a_base_of_64 :
    ((63 : Nat) : Int) - ((64 : Nat) : Int) = -1 ∧ decodeAccess ⟨.word, -1, .read⟩ = .error .outsideWindow :=
  ⟨by decide, rfl⟩

/-- Above the window: the first address after it. -/
theorem witness_TheWindowStandsAtXteaBase :
    ∃ s : State, s.pending = .access (accessAt .word (Config.xteaBase + 64) .read) :: [] ∧
      (Config.xteaBase + 64 < Config.xteaBase ∨ Config.xteaBase + 64 ≤ Config.xteaBase + 64) :=
  ⟨withTurns State.reset [.access (accessAt .word (Config.xteaBase + 64) .read)], rfl, .inr (Nat.le_refl _)⟩

theorem witness_SafeSchedulesNeverStop :
    State.SafeSchedule (withTurns (running 2#32) [.access (issue .rdStatus), .engine, .reset, .access (issue .enc)]) := by
  intro a h
  simp [withTurns] at h
  rcases h with rfl | rfl <;> decide

theorem witness_PushbFillsTheByteBuffer :
    (keyed 1#32).bcount = 0#8 ∧
    (withTurns (keyed 1#32) (host (pushB [1#8, 2#8]) ++ [.engine])).pending = host (pushB [1#8, 2#8]) ++ [.engine] :=
  ⟨rfl, rfl⟩

theorem witness_PushwFillsTheWordBuffer :
    (keyed 1#32).wcount = 0#8 ∧
    (withTurns (keyed 1#32) (host (pushW [1#32, 2#32, 3#32, 4#32, 5#32]))).pending =
      host (pushW [1#32, 2#32, 3#32, 4#32, 5#32]) ++ [] := ⟨rfl, rfl⟩

/-- Each of the three ways an acceptance ends. -/
theorem witness_AcceptanceEndsInOneOfThreeWays :
    State.reset.fsm = .idle ∧ (after (.wrCmd 3#32) State.reset).err = true ∧
    (ready 1#32).fsm = .idle ∧ (after (.wrCmd 7#32) (ready 1#32)).done = true ∧
    (after (.wrCmd 7#32) (ready 1#32)).err = false ∧ (after (.wrCmd 3#32) (ready 1#32)).fsm = .run := by decide

theorem witness_CommandsWhileBusyAreDropped :
    issuesCommand (.wrCmd 0x10#32) = true ∧ issuesCommand .clrbuf = true ∧ (running 1#32).fsm = .run := by decide

/-- The values next to the legal words 1 to 7, and the largest word. -/
theorem witness_IllegalWordsReportIllegalCommand :
    State.reset.fsm = .idle ∧ ¬(1 ≤ (0#32).toNat ∧ (0#32).toNat ≤ 7) ∧ ¬(1 ≤ (8#32).toNat ∧ (8#32).toNat ≤ 7) ∧
    ¬(1 ≤ (0xFFFFFFFF#32).toNat ∧ (0xFFFFFFFF#32).toNat ≤ 7) := by decide

theorem witness_IllegalRowsReportIllegalCommand : (ready 1#32).fsm = .idle := by decide

/-- One command of each kind of failure, and CLRBUF's, which has none. -/
theorem witness_FailedCommandsChangeOnlyTheReport :
    issuesCommand .encw = true ∧ (ready 1#32).fsm = .idle ∧
    exec .encw { ready 1#32 with wcount := 3#8 } = .next (after .encw { ready 1#32 with wcount := 3#8 }) ∧
    (after .encw { ready 1#32 with wcount := 3#8 }).err = true := ⟨rfl, rfl, rfl, rfl⟩

/-- A failure of each group of commands that the clauses name. -/
theorem witness_EachCommandReportsOnlyItsOwnErrors :
    (after .initKb State.reset).err = true ∧ (after .initKw State.reset).err = true ∧
    (after .enc State.reset).err = true ∧ (after .decw State.reset).err = true ∧
    (after (.wrCmd 0#32) State.reset).err = true ∧ commandOf (.wrCmd 0#32) = .illegalOp0 ∧
    commandOf (.wrCmd 2#32) = .initKw ∧ State.reset.fsm = .idle := by decide

/-- Both byte orders, at both ends of the legal cycle counts. -/
theorem witness_InitKbInstallsTheByteKey :
    pushed16.fsm = .idle ∧ pushed16.bcount = 16#8 ∧ pushed16.configOrder = .be ∧
    ({ pushed16 with configOrder := .le } : State).configOrder = .le ∧
    1 ≤ (1#32).toNat ∧ (1#32).toNat ≤ 2 ^ 31 - 1 ∧
    1 ≤ (0x7FFFFFFF#32).toNat ∧ (0x7FFFFFFF#32).toNat ≤ 2 ^ 31 - 1 ∧
    ({ pushed16 with cyclesIn := 0x7FFFFFFF#32 } : State).cyclesIn = 0x7FFFFFFF#32 := by decide

theorem witness_InitKwInstallsTheWordKey :
    pushedKey.fsm = .idle ∧ pushedKey.wcount = 4#8 ∧ 1 ≤ pushedKey.cyclesIn.toNat ∧
    pushedKey.cyclesIn.toNat ≤ 2 ^ 31 - 1 := by decide

/-- Each clause: lengths next to the right one, and the counts 0 and 2^31 next to the legal ones. -/
theorem witness_InitFailuresKeepTheConfiguration :
    State.reset.fsm = .idle ∧ (15#8 ≠ 16#8 ∧ 17#8 ≠ 16#8) ∧ (3#8 ≠ 4#8 ∧ 5#8 ≠ 4#8) ∧
    pushed16.bcount = 16#8 ∧ pushedKey.wcount = 4#8 ∧
    ¬(1 ≤ (0#32).toNat ∧ (0#32).toNat ≤ 2 ^ 31 - 1) ∧
    ¬(1 ≤ (0x80000000#32).toNat ∧ (0x80000000#32).toNat ≤ 2 ^ 31 - 1) ∧
    (after .initKb { pushed16 with cyclesIn := 0x80000000#32 }).errcode = 3#4 ∧
    (after .initKw { pushedKey with cyclesIn := 0#32 }).errcode = 3#4 := by decide

theorem witness_ByteBlockCommandsStartTheEngine :
    (ready 1#32).fsm = .idle ∧ (ready 1#32).cfgValid = true ∧ (ready 1#32).bcount = 8#8 ∧
    (ready 1#32).actOrder = .be ∧ ({ ready 1#32 with actOrder := .le } : State).actOrder = .le := by decide

theorem witness_WordBlockCommandsStartTheEngine :
    (ready 1#32).fsm = .idle ∧ (ready 1#32).cfgValid = true ∧ (ready 1#32).wcount = 2#8 := by decide

/-- Each clause: no configuration, and with one the lengths next to the right ones. -/
theorem witness_BlockCommandFailuresAreReported :
    State.reset.fsm = .idle ∧ State.reset.cfgValid = false ∧ (keyed 1#32).fsm = .idle ∧ (keyed 1#32).cfgValid = true ∧
    ({ keyed 1#32 with bcount := 7#8 } : State).bcount ≠ 8#8 ∧ ({ keyed 1#32 with bcount := 9#8 } : State).bcount ≠ 8#8 ∧
    ({ keyed 1#32 with wcount := 1#8 } : State).wcount ≠ 2#8 ∧
    ({ keyed 1#32 with wcount := 3#8 } : State).wcount ≠ 2#8 := by decide

theorem witness_ClrbufEmptiesBothBuffers : (ready 1#32).fsm = .idle := by decide

theorem witness_EngineCycleStepDoesOneCycle :
    (withTurns (running 1#32) [.engine]).pending = .engine :: [] ∧ (running 1#32).fsm = .run ∧
    (running 1#32).cnt ≠ 0#32 ∧ (running 1#32).dir = .encipher ∧
    ({ running 1#32 with dir := .decipher } : State).dir = .decipher := by decide

theorem witness_EngineCompletionStepWritesTheOutputs :
    (withTurns (running 0#32) [.engine]).pending = .engine :: [] ∧ (running 0#32).fsm = .run ∧
    (running 0#32).cnt = 0#32 ∧ (running 0#32).actOrder = .be ∧
    ({ running 0#32 with actOrder := .le } : State).actOrder = .le := by decide

theorem witness_TheEngineRestsWhileIdle :
    State.reset.fsm = .idle ∧ (withTurns State.reset [.engine]).pending = .engine :: [] ∧
    State.reset.pending = [] := by decide

/-- All four commands, each accepted. -/
theorem witness_BlockCommandsComputeTheTransform :
    (ready 2#32).fsm = .idle ∧ (after .enc (ready 2#32)).fsm = .run ∧ (after .dec (ready 2#32)).fsm = .run ∧
    (after .encw (ready 2#32)).fsm = .run ∧ (after .decw (ready 2#32)).fsm = .run ∧
    (after .enc (ready 2#32)).pending = [] ∧ exec .enc (ready 2#32) = .next (after .enc (ready 2#32)) :=
  ⟨rfl, rfl, rfl, rfl, rfl, rfl, rfl⟩

/-- A schedule with a push, a write of CONFIG and a dropped command between the engine's steps. -/
theorem witness_TheResultIsTheSameUnderEverySchedule :
    let l : List Turn := [.access (issue (.wrWordIn 7#32)), .engine, .access (issue (.wrConfig 1#32)),
      .access (issue .initKb), .engine]
    (running 2#32).fsm = .run ∧ (running 2#32).cnt = (running 2#32).actCycles ∧
    (running 2#32).sum = initialSum (running 2#32).dir (running 2#32).actCycles ∧
    (∀ a, Turn.access a ∈ l → a.defined = true) ∧ Turn.reset ∉ l ∧
    l.count Turn.engine = (running 2#32).actCycles.toNat ∧
    (withTurns (running 2#32) (l ++ .engine :: [.reset])).pending = l ++ .engine :: [.reset] := by
  refine ⟨rfl, rfl, rfl, ?_, by decide, by decide, rfl⟩
  intro a h
  simp at h
  rcases h with rfl | rfl | rfl <;> decide

theorem witness_CommandRoundTrip :
    (keyed 2#32).fsm = .idle ∧ (keyed 2#32).cfgValid = true ∧ (keyed 2#32).bcount = 0#8 ∧ (keyed 2#32).wcount = 0#8 := by
  decide

theorem witness_ARunEndsAfterCntPlusOneSteps :
    (running 2#32).fsm = .run ∧ (running 2#32).pending = [] ∧ 2 ≤ (running 2#32).cnt.toNat := by decide

/-- A state of a run, so that every clause of the invariants says something. -/
theorem witness_EveryStepKeepsTheInvariants :
    (running 2#32).Inv ∧ step (running 2#32) = .next (got (step (running 2#32))) := ⟨by decide, rfl⟩

theorem witness_EveryReachableStateSatisfiesTheInvariants :
    runSteps 1 { State.reset with pending := [.access (issue .enc)] } =
      .next (got (step { State.reset with pending := [.access (issue .enc)] })) := rfl

theorem witness_EveryStepKeepsTheSumRelation :
    (running 2#32).SumTracks ∧ step (running 2#32) = .next (got (step (running 2#32))) := ⟨by decide, rfl⟩

theorem witness_ReservedErrorCodesAreNeverWritten :
    step (withTurns State.reset [.access (issue .enc)]) =
      .next (got (step (withTurns State.reset [.access (issue .enc)]))) := rfl

/-- A start, a completion and a reset. -/
theorem witness_FsmChangesOnlyAtStartCompletionAndReset :
    (got (step (withTurns (ready 1#32) [.access (issue .enc)]))).fsm ≠ (ready 1#32).fsm ∧
    (got (step (running 0#32))).fsm ≠ (running 0#32).fsm ∧
    (got (step (withTurns (running 2#32) [.reset]))).fsm ≠ (running 2#32).fsm := by decide

/-- An INIT and a reset. -/
theorem witness_TheConfigurationChangesOnlyAtInit :
    (got (step (withTurns pushed16 [.access (issue .initKb)]))).key ≠ pushed16.key ∧
    (got (step (withTurns pushed16 [.access (issue .initKb)]))).cfgValid ≠ pushed16.cfgValid ∧
    (got (step (withTurns (keyed 3#32) [.reset]))).actCycles ≠ (keyed 3#32).actCycles := by decide

/-- A completion and a reset. -/
theorem witness_OutputsChangeOnlyAtCompletion :
    (got (step (running 0#32))).outW0 ≠ (running 0#32).outW0 ∧
    (got (step (withTurns { keyed 1#32 with outB1 := 5#32 } [.reset]))).outB1 ≠ 5#32 := by decide

/-- A report written, and OVR set. -/
theorem witness_OnlyCommandsWriteTheReport :
    (got (step (withTurns State.reset [.access (issue .enc)]))).errcode ≠ State.reset.errcode ∧
    (running 1#32).ovr = false ∧ (got (step (withTurns (running 1#32) [.access (issue .enc)]))).ovr = true := by decide

theorem witness_HostAccessesLeaveARunAlone : (running 1#32).fsm = .run := by decide

theorem witness_ResetSetsEveryRegister :
    (withTurns (running 1#32) [.reset, .engine]).pending = .reset :: [.engine] := rfl

/-- Every clause: a command that ends at acceptance and one that starts, a completion, and the two writes. -/
theorem witness_IrqFollowsDoneAndItsEnable :
    issuesCommand .clrbuf = true ∧ (ready 1#32).fsm = .idle ∧ (after .clrbuf (ready 1#32)).fsm = .idle ∧
    (after .enc (ready 1#32)).fsm = .run ∧ (withTurns (running 0#32) [.engine]).pending = .engine :: [] ∧
    (running 0#32).fsm = .run ∧ (running 0#32).cnt = 0#32 ∧ (2#32).getLsbD 1 = true ∧ (1#32).getLsbD 1 = false ∧
    (keyed 1#32).done = true := by decide

/-- Two states that differ in hidden registers only: the key, the datapath and the cells, before any configuration. -/
theorem witness_HiddenStateIsNotObservable :
    State.reset.Inv ∧
    State.reset.SameView { State.reset with key := stdKey, v0 := 7#32, cnt := 9#32, bbuf := bytes16, wbuf := stdKey } := by
  refine ⟨by decide, ?_⟩
  constructor
  case key => intro h; exact absurd h (by decide)
  case datapath => intro h; exact absurd h (by decide)
  case bbuf => intro i h hi; exact absurd hi (Nat.not_lt_zero i)
  case wbuf => intro i h hi; exact absurd hi (Nat.not_lt_zero i)
  all_goals rfl

theorem witness_HiddenResetValuesDoNotMatter :
    runSteps 1 { State.reset with pending := [.access (issue .rdStatus)] } =
      .next (got (step { State.reset with pending := [.access (issue .rdStatus)] })) := rfl

end Sys2Proof.Tests
end

section
/-! PROOFS of the scope statements (spec/00_scope.md): where the register window stands, whatever XTEA_BASE is. -/

namespace Sys2Proof

/-! ### Offsets from XTEA_BASE -/

/-- R10. -/
theorem Config.xteaBase_mod_64 : Config.xteaBase % 64 = 0 :=
  Nat.mul_mod_right 64 Config.xteaBaseBlock

@[simp] theorem Config.offsetOf_xteaBase_add (off : Nat) : Config.offsetOf (Config.xteaBase + off) = off := by
  simp [Config.offsetOf]

/-- The offsets outside the window are those of the addresses outside it (R80). -/
theorem Config.offsetOf_outside_iff (address : Nat) :
    (Config.offsetOf address < 0 ∨ 64 ≤ Config.offsetOf address) ↔
      (address < Config.xteaBase ∨ Config.xteaBase + 64 ≤ address) := by
  unfold Config.offsetOf
  omega

/-! ### Accesses outside the window -/

/-- R90: the window is looked at before the alignment, so the latter does not matter here (log entry 5). -/
theorem decodeAccess_outsideWindow {a : BusAccess} (hsize : a.size = .word) (hout : a.offset < 0 ∨ 64 ≤ a.offset) :
    decodeAccess a = .error .outsideWindow := by
  simp [decodeAccess, hsize, hout]

/-- A 32-bit access at a bus address outside the window's 64 bytes decodes to no instruction. -/
theorem decodeAccess_accessAt_outsideWindow {address : Nat} (op : BusOp)
    (hout : address < Config.xteaBase ∨ Config.xteaBase + 64 ≤ address) :
    decodeAccess (accessAt .word address op) = .error .outsideWindow :=
  decodeAccess_outsideWindow rfl ((Config.offsetOf_outside_iff address).2 hout)

/-- Settles O8: the offset is the distance from XTEA_BASE, so an address outside the window's 64 bytes has an offset
outside 0 to 63, which the decoder rejects and the step refuses. -/
theorem theWindowStandsAtXteaBase : Obligations.TheWindowStandsAtXteaBase := by
  refine ⟨Config.xteaBase_mod_64, fun off size op => ?_, fun s address op rest hpending hout => ?_⟩
  · simp only [accessAt, Config.offsetOf_xteaBase_add]
  · exact Machine.step_access_error hpending (decodeAccess_accessAt_outsideWindow op hout)

end Sys2Proof
end

section
/-! PROOFS of the state statements (spec/10_state.md): what one step can be, said once; the invariants of R55 and the
rules of which step may change which register follow from it case by case. -/

namespace Sys2Proof.Machine

/-! ### Command words while a command runs -/

/-- R242, for every row that brings a command word to CMD. -/
theorem exec_command_run {i : Instr} {s : State} (hi : issuesCommand i = true) (hs : s.fsm = .run) :
    exec i s = .next (dropCommand s) := by
  cases i with
  | wrCmd c => simp [exec, execWrCmd, hs]
  | initKb | initKw | enc | dec | encw | decw | clrbuf | illegalOp0 | illegalOp8F _ | illegalRsv _ _ =>
    exact congrArg Host.Outcome.next (issueCommand_run hs)
  | _ => simp [issuesCommand] at hi

/-! ### What one step can be -/

/-- The next turn is the engine's: it is listed, or none is (log entry 2). -/
def State.EngineIsNext (s : State) : Prop := s.pending = [] ∨ ∃ rest, s.pending = .engine :: rest

/-- The next turn is a reset. -/
def State.ResetIsNext (s : State) : Prop := ∃ rest, s.pending = .reset :: rest

/-- The next turn is the host access that decodes to `i`. -/
def State.AccessIsNext (s : State) (i : Instr) : Prop :=
  ∃ a rest, s.pending = .access a :: rest ∧ decodeAccess a = .ok i

/-- The seven transitions of the machine: three kinds of engine turn (R184 to R186), reset (R320), and a host access
that brings no command word, one that is dropped (R242) or one that is accepted (R241). `step_transition` ties them to
`step`. -/
inductive Transition (s t : State) : Prop
  | idleTurn (hturn : s.EngineIsNext) (hfsm : s.fsm = .idle) (ht : t = popTurn s)
  | cycle (hturn : s.EngineIsNext) (hfsm : s.fsm = .run) (hcnt : s.cnt ≠ 0#32) (ht : t = cycleStep (popTurn s))
  | completion (hturn : s.EngineIsNext) (hfsm : s.fsm = .run) (hcnt : s.cnt = 0#32)
      (ht : t = completionStep (popTurn s))
  | reset (hturn : s.ResetIsNext) (ht : t = resetEngine (popTurn s))
  | other (i : Instr) (hi : issuesCommand i = false) (ht : exec i (popTurn s) = .next t)
  | dropped (i : Instr) (hturn : s.AccessIsNext i) (hi : issuesCommand i = true) (hfsm : s.fsm = .run)
      (ht : t = dropCommand (popTurn s))
  | accepted (i : Instr) (hturn : s.AccessIsNext i) (hi : issuesCommand i = true) (hfsm : s.fsm = .idle)
      (ht : exec i (popTurn s) = .next t)

theorem popTurn_of_nil {s : State} (h : s.pending = []) : popTurn s = s := by
  cases s
  simp_all [popTurn]

theorem popTurn_of_cons {s : State} {turn : Turn} {rest : List Turn} (h : s.pending = turn :: rest) :
    popTurn s = { s with pending := rest } := by
  simp [popTurn, h]

theorem engineTurn_transition {s : State} (h : s.EngineIsNext) : Transition s (engineTurn (popTurn s)) := by
  rcases engineTurn_cases (popTurn s) with ⟨hfsm, e⟩ | ⟨hfsm, hcnt, e⟩ | ⟨hfsm, hcnt, e⟩
  · exact .idleTurn h hfsm e
  · exact .cycle h hfsm hcnt e
  · exact .completion h hfsm hcnt e

theorem exec_transition {s t : State} {i : Instr} (h : s.AccessIsNext i) (ht : exec i (popTurn s) = .next t) :
    Transition s t := by
  cases hi : issuesCommand i with
  | false => exact .other i hi ht
  | true =>
    cases hfsm : s.fsm with
    | idle => exact .accepted i h hi hfsm ht
    | run =>
      rw [exec_command_run (s := popTurn s) hi hfsm] at ht
      cases ht
      exact .dropped i h hi hfsm rfl

/-- Every step that answers a next state is one of the seven transitions. -/
theorem step_transition {s t : State} (h : step s = .next t) : Transition s t := by
  rcases step_next_cases h with ⟨hp, rfl⟩ | ⟨rest, hp, rfl⟩ | ⟨rest, hp, rfl⟩ | ⟨a, rest, i, hp, hd, ht⟩
  · simpa only [popTurn_of_nil hp] using engineTurn_transition (.inl hp)
  · simpa only [popTurn_of_cons hp] using engineTurn_transition (.inr ⟨rest, hp⟩)
  · exact .reset ⟨rest, hp⟩ (by rw [popTurn_of_cons hp])
  · exact exec_transition ⟨a, rest, hp, hd⟩ (by rw [popTurn_of_cons hp]; exact ht)

/-! ### The invariants of R55 -/

/-- Settles O47: reset leaves FSM IDLE and no configuration, so only (c) says anything, and it reads ERR = 0 and
ERRCODE = 0. -/
theorem resetSatisfiesTheInvariants : Obligations.ResetSatisfiesTheInvariants := by
  unfold Obligations.ResetSatisfiesTheInvariants
  decide

/-- Reset, with any turns to come (log entry 1). -/
theorem reset_inv (l : List Turn) : State.Inv { State.reset with pending := l } :=
  resetSatisfiesTheInvariants.1

/-- R55 speaks of nothing that a host access without a command word may change, but for DONE, which it only lowers. -/
theorem exec_other_keeps_inv {i : Instr} {s t : State} (hi : issuesCommand i = false) (h : exec i s = .next t)
    (hs : s.Inv) : t.Inv := by
  obtain ⟨ht, hdone, -⟩ := exec_other hi h
  obtain ⟨hrun, hcycles, herr, hcnt⟩ := hs
  rw [ht]
  refine ⟨fun hfsm => ?_, hcycles, herr, hcnt⟩
  obtain ⟨hd, he, hv⟩ := hrun hfsm
  exact ⟨Bool.eq_false_iff.2 fun h => by simp [hdone h] at hd, he, hv⟩

/-- A command accepted while IDLE starts a run only under a configuration that was legal when it was installed. -/
theorem exec_accepted_keeps_inv {i : Instr} {s t : State} (hi : issuesCommand i = true) (hfsm : s.fsm = .idle)
    (h : exec i s = .next t) (hs : s.Inv) : t.Inv := by
  obtain ⟨-, hcycles, -, -⟩ := hs
  rcases exec_command_outcomes hi hfsm h with ⟨e, _, _, _, rfl⟩ | ⟨_, _, rfl⟩ | ⟨_, hlegal, _, _, _, _, rfl⟩ |
    ⟨_, hvalid, _, _, _, _, _, _, rfl⟩
  · exact ⟨by simp [hfsm], hcycles, by simp [e.code_ne_zero], by simp [hfsm]⟩
  · exact ⟨by simp [hfsm], hcycles, by simp, by simp [hfsm]⟩
  · have hle := (legalCycles_iff _).1 hlegal
    exact ⟨by simp [hfsm], fun _ => ⟨hle.1, by simpa using Nat.le_sub_one_of_lt hle.2⟩, by simp, by simp [hfsm]⟩
  · exact ⟨fun _ => ⟨rfl, rfl, hvalid⟩, hcycles, by simp, fun _ => le_rfl⟩

/-- One step keeps (a) to (d) of R55. -/
theorem State.Inv.step {s t : State} (hs : s.Inv) (h : step s = .next t) : t.Inv := by
  cases step_transition h with
  | idleTurn _ _ ht => rw [ht]; exact hs
  | cycle _ hfsm hcnt ht =>
    obtain ⟨hrun, hcycles, herr, hle⟩ := hs
    have hdec : (s.cnt - 1#32).toNat ≤ s.cnt.toNat := by bv_omega
    rw [ht]
    exact ⟨hrun, hcycles, herr, fun _ => hdec.trans (hle hfsm)⟩
  | completion _ _ _ ht =>
    obtain ⟨-, hcycles, herr, -⟩ := hs
    rw [ht]
    exact ⟨by simp, hcycles, herr, by simp⟩
  | reset _ ht => rw [ht]; exact resetSatisfiesTheInvariants.1
  | other _ hi ht => exact exec_other_keeps_inv (s := popTurn s) hi ht hs
  | dropped _ _ _ _ ht => rw [ht]; exact hs
  | accepted _ _ hi hfsm ht => exact exec_accepted_keeps_inv (s := popTurn s) hi hfsm ht hs

/-- Settles O48, by the seven transitions. -/
theorem everyStepKeepsTheInvariants : Obligations.EveryStepKeepsTheInvariants :=
  fun _ _ hs h => hs.step h

/-- What every step keeps, any number of steps keep. -/
theorem State.Inv.runSteps {k : Nat} {s t : State} (hs : s.Inv) (h : runSteps k s = .next t) : t.Inv := by
  induction k generalizing s with
  | zero => cases h; exact hs
  | succ k ih =>
    obtain ⟨u, hu, h⟩ := runSteps_succ_inv h
    exact ih (hs.step hu) h

/-- Settles O49: (a) to (d) by the induction over the steps from reset, (e) by the width of the two counters. -/
theorem everyReachableStateSatisfiesTheInvariants : Obligations.EveryReachableStateSatisfiesTheInvariants := by
  intro k l t h
  obtain ⟨hrun, hcycles, herr, hcnt⟩ := (reset_inv l).runSteps h
  exact ⟨hrun, hcycles, herr, hcnt, Nat.le_of_lt_succ t.bcount.isLt, Nat.le_of_lt_succ t.wcount.isLt⟩

/-! ### Which steps change which register -/

/-- Settles O52: of the seven transitions only a started block command, a completion and a reset touch FSM. -/
theorem fsmChangesOnlyAtStartCompletionAndReset : Obligations.FsmChangesOnlyAtStartCompletionAndReset := by
  intro s t h hne
  cases step_transition h with
  | idleTurn _ _ ht | cycle _ _ _ ht | dropped _ _ _ _ ht => simp [ht] at hne
  | completion hturn hfsm hcnt _ => exact .inr (.inl ⟨hfsm, hcnt, hturn⟩)
  | reset hturn ht =>
    refine .inr (.inr ⟨?_, hturn⟩)
    cases hfsm : s.fsm with
    | run => rfl
    | idle => exact absurd (by rw [ht, hfsm]; rfl) hne
  | other _ hi ht =>
    rw [(exec_other hi ht).1] at hne
    simp at hne
  | accepted i hturn hi hfsm ht =>
    obtain ⟨a, rest, hp, hd⟩ := hturn
    rcases exec_command_outcomes (s := popTurn s) hi hfsm ht with ⟨_, _, _, _, rfl⟩ | ⟨_, _, rfl⟩ |
      ⟨_, _, _, _, _, _, rfl⟩ | ⟨hblock, hvalid, _, _, _, _, _, _, rfl⟩
    · simp at hne
    · simp at hne
    · simp at hne
    · exact .inl ⟨hfsm, a, rest, i, hp, hd, hblock, hvalid, rfl⟩

/-- Settles O53: of the seven transitions only an installed configuration and a reset touch KEY, ACT_CYCLES, ACT_ORDER
or CFG_VALID. -/
theorem theConfigurationChangesOnlyAtInit : Obligations.TheConfigurationChangesOnlyAtInit := by
  intro s t h hne
  cases step_transition h with
  | idleTurn _ _ ht | cycle _ _ _ ht | completion _ _ _ ht | dropped _ _ _ _ ht => simp [ht] at hne
  | reset hturn _ => exact .inl hturn
  | other _ hi ht =>
    rw [(exec_other hi ht).1] at hne
    simp at hne
  | accepted i hturn hi hfsm ht =>
    obtain ⟨a, rest, hp, hd⟩ := hturn
    rcases exec_command_outcomes (s := popTurn s) hi hfsm ht with ⟨_, _, _, _, rfl⟩ | ⟨_, _, rfl⟩ |
      ⟨hinit, hlegal, _, _, _, _, rfl⟩ | ⟨_, _, _, _, _, _, _, _, rfl⟩
    · simp at hne
    · simp at hne
    · obtain ⟨hlow, hhigh⟩ := (legalCycles_iff _).1 hlegal
      exact .inr ⟨hfsm, rfl, rfl, rfl, hlow, Nat.le_sub_one_of_lt hhigh, a, rest, i, hp, hd, hinit⟩
    · simp at hne

/-- Settles O54: of the seven transitions only a completion and a reset touch the output registers. -/
theorem outputsChangeOnlyAtCompletion : Obligations.OutputsChangeOnlyAtCompletion := by
  intro s t h hne
  cases step_transition h with
  | idleTurn _ _ ht | cycle _ _ _ ht | dropped _ _ _ _ ht => simp [ht] at hne
  | completion _ hfsm hcnt ht => exact .inr ⟨hfsm, hcnt, by simp [ht], by simp [ht]⟩
  | reset hturn _ => exact .inl hturn
  | other _ hi ht =>
    rw [(exec_other hi ht).1] at hne
    simp at hne
  | accepted _ _ hi hfsm ht =>
    rcases exec_command_outcomes (s := popTurn s) hi hfsm ht with ⟨_, _, _, _, rfl⟩ | ⟨_, _, rfl⟩ |
      ⟨_, _, _, _, _, _, rfl⟩ | ⟨_, _, _, _, _, _, _, _, rfl⟩ <;> simp at hne

/-- R45: a step that changes ERR or ERRCODE is a reset or accepts a command word. -/
theorem step_report_change {s t : State} (h : step s = .next t) (hne : t.err ≠ s.err ∨ t.errcode ≠ s.errcode) :
    s.ResetIsNext ∨ (s.fsm = .idle ∧ ∃ i, s.AccessIsNext i ∧ issuesCommand i = true) := by
  cases step_transition h with
  | idleTurn _ _ ht | cycle _ _ _ ht | completion _ _ _ ht | dropped _ _ _ _ ht => simp [ht] at hne
  | reset hturn _ => exact .inl hturn
  | other _ hi ht =>
    rw [(exec_other hi ht).1] at hne
    simp at hne
  | accepted i hturn hi hfsm _ => exact .inr ⟨hfsm, i, hturn, hi⟩

/-- R46: a step that raises OVR drops a command word while FSM = RUN. -/
theorem step_raises_ovr {s t : State} (h : step s = .next t) (hs : s.ovr = false) (ht' : t.ovr = true) :
    s.fsm = .run ∧ ∃ i, s.AccessIsNext i ∧ issuesCommand i = true := by
  cases step_transition h with
  | idleTurn _ _ ht | cycle _ _ _ ht | completion _ _ _ ht => simp [ht, hs] at ht'
  | reset _ ht => rw [ht] at ht'; cases ht'
  | other _ hi ht =>
    obtain ⟨-, -, hovr⟩ := exec_other hi ht
    exact absurd (hovr ht') (by simp [hs])
  | dropped i hturn hi hfsm _ => exact ⟨hfsm, i, hturn, hi⟩
  | accepted _ _ hi hfsm ht =>
    rcases exec_command_outcomes (s := popTurn s) hi hfsm ht with ⟨_, _, _, _, rfl⟩ | ⟨_, _, rfl⟩ |
      ⟨_, _, _, _, _, _, rfl⟩ | ⟨_, _, _, _, _, _, _, _, rfl⟩ <;> simp [hs] at ht'

/-- Settles O55: ERR and ERRCODE, then OVR. -/
theorem onlyCommandsWriteTheReport : Obligations.OnlyCommandsWriteTheReport := by
  intro s t h
  refine ⟨fun hne => ?_, fun hs ht => ?_⟩
  · rcases step_report_change h hne with hreset | ⟨hfsm, i, ⟨a, rest, hp, hd⟩, hi⟩
    · exact .inl hreset
    · exact .inr ⟨hfsm, a, rest, i, hp, hd, hi⟩
  · obtain ⟨hfsm, i, ⟨a, rest, hp, hd⟩, hi⟩ := step_raises_ovr h hs ht
    exact ⟨hfsm, a, rest, i, hp, hd, hi⟩

end Sys2Proof.Machine
end

section
/-! PROOFS about the two push buffers (spec/10_state.md R39, R40; spec/30_encoding.md R120): one push, then any number
of them from a host program. -/

namespace Sys2Proof.Machine

/-! ### One push -/

/-- A counter of pushes stops at 255 (R39, R40). -/
theorem toNat_count_up (c : BitVec 8) :
    (if c.toNat < 255 then c + 1#8 else c).toNat = min 255 (c.toNat + 1) := by
  split <;> bv_omega

@[simp] theorem pushByte_bcount_toNat (b : Byte) (s : State) :
    (pushByte b s).bcount.toNat = min 255 (s.bcount.toNat + 1) :=
  toNat_count_up s.bcount

@[simp] theorem pushWord_wcount_toNat (w : Word) (s : State) :
    (pushWord w s).wcount.toNat = min 255 (s.wcount.toNat + 1) :=
  toNat_count_up s.wcount

/-- A push writes the cell that the counter names, if there is one (R252). -/
theorem pushByte_bbuf_getElem (b : Byte) (s : State) (i : Nat) (hi : i < 16) :
    (pushByte b s).bbuf[i] = if i = s.bcount.toNat then b else s.bbuf[i] := by
  simp only [pushByte]
  split
  · simp only [Vector.getElem_set, eq_comm]
  · rw [if_neg (by omega)]

/-- A push writes the cell that the counter names, if there is one (R254). -/
theorem pushWord_wbuf_getElem (w : Word) (s : State) (i : Nat) (hi : i < 4) :
    (pushWord w s).wbuf[i] = if i = s.wcount.toNat then w else s.wbuf[i] := by
  simp only [pushWord]
  split
  · simp only [Vector.getElem_set, eq_comm]
  · rw [if_neg (by omega)]

/-! ### Any number of pushes -/

/-- What cell `i` holds once `xs` was pushed behind `c` earlier entries, if it held `old` before: an earlier entry
stays, a cell behind the last push keeps its value. -/
def cellAfterPushes {α : Type} (c : Nat) (xs : List α) (i : Nat) (old : α) : α :=
  if i < c then old else xs.getD (i - c) old

@[simp] theorem cellAfterPushes_nil {α : Type} (c i : Nat) (old : α) : cellAfterPushes c [] i old = old := by
  simp [cellAfterPushes]

@[simp] theorem cellAfterPushes_zero {α : Type} (xs : List α) (i : Nat) (old : α) :
    cellAfterPushes 0 xs i old = xs.getD i old := by
  simp [cellAfterPushes]

/-- One push and then the others. The counter stops at 255, far above the cells there are. -/
theorem cellAfterPushes_cons {α : Type} {c i : Nat} (x : α) (xs : List α) (old : α) (hi : i < 255) :
    cellAfterPushes (min 255 (c + 1)) xs i (if i = c then x else old) = cellAfterPushes c (x :: xs) i old := by
  unfold cellAfterPushes
  rcases Nat.lt_trichotomy i c with hlt | rfl | hgt
  · rw [if_pos (by omega), if_neg (by omega), if_pos hlt]
  · rw [if_pos (by omega), if_pos rfl, if_neg (by omega), Nat.sub_self, List.getD_cons_zero]
  · have hsub : i - c = i - min 255 (c + 1) + 1 := by omega
    rw [if_neg (by omega), if_neg (by omega), if_neg (by omega), hsub, List.getD_cons_succ]

/-! ### Host programs of pushes -/

theorem decodeAccess_issue_wrByteIn (v : Word) : decodeAccess (issue (.wrByteIn v)) = .ok (.wrByteIn v) :=
  decodeAccess_write 0x10 v (by decide) (by decide)

theorem decodeAccess_issue_wrWordIn (v : Word) : decodeAccess (issue (.wrWordIn v)) = .ok (.wrWordIn v) :=
  decodeAccess_write 0x14 v (by decide) (by decide)

theorem step_host_pushB {s : State} {b : Byte} {bs : List Byte} {rest : List Turn}
    (h : s.pending = host (pushB (b :: bs)) ++ rest) :
    step s = .next (pushByte b { s with pending := host (pushB bs) ++ rest }) := by
  have hb : (b.setWidth 32).extractLsb' 0 8 = b := by
    apply BitVec.eq_of_toNat_eq
    simpa using b.isLt
  rw [step_access h (decodeAccess_issue_wrByteIn _), exec, execWrByteIn, hb]
  rfl

theorem step_host_pushW {s : State} {w : Word} {ws : List Word} {rest : List Turn}
    (h : s.pending = host (pushW (w :: ws)) ++ rest) :
    step s = .next (pushWord w { s with pending := host (pushW ws) ++ rest }) :=
  step_access h (decodeAccess_issue_wrWordIn w)

/-- PUSHB behind any number of earlier bytes. -/
theorem runSteps_pushB {s : State} {bs : List Byte} {rest : List Turn} (h : s.pending = host (pushB bs) ++ rest) :
    ∃ t, runSteps bs.length s = .next t ∧
      t = { s with bbuf := t.bbuf, bcount := t.bcount, pending := rest } ∧
      t.bcount.toNat = min 255 (s.bcount.toNat + bs.length) ∧
      ∀ (i : Nat) (hi : i < 16), t.bbuf[i] = cellAfterPushes s.bcount.toNat bs i s.bbuf[i] := by
  induction bs generalizing s with
  | nil =>
    have hc := s.bcount.isLt
    exact ⟨s, rfl, by cases h; rfl, by rw [List.length_nil]; omega, by simp⟩
  | cons b bs ih =>
    obtain ⟨t, hrun, hframe, hcount, hcells⟩ := ih (s := pushByte b { s with pending := host (pushB bs) ++ rest }) rfl
    refine ⟨t, (runSteps_succ_of_next (step_host_pushB h)).trans hrun, hframe, ?_, fun i hi => ?_⟩
    · simp only [hcount, pushByte_bcount_toNat, List.length_cons]
      omega
    · rw [hcells i hi, pushByte_bcount_toNat, pushByte_bbuf_getElem]
      exact cellAfterPushes_cons b bs s.bbuf[i] (by omega)

/-- PUSHW behind any number of earlier words. -/
theorem runSteps_pushW {s : State} {ws : List Word} {rest : List Turn} (h : s.pending = host (pushW ws) ++ rest) :
    ∃ t, runSteps ws.length s = .next t ∧
      t = { s with wbuf := t.wbuf, wcount := t.wcount, pending := rest } ∧
      t.wcount.toNat = min 255 (s.wcount.toNat + ws.length) ∧
      ∀ (i : Nat) (hi : i < 4), t.wbuf[i] = cellAfterPushes s.wcount.toNat ws i s.wbuf[i] := by
  induction ws generalizing s with
  | nil =>
    have hc := s.wcount.isLt
    exact ⟨s, rfl, by cases h; rfl, by rw [List.length_nil]; omega, by simp⟩
  | cons w ws ih =>
    obtain ⟨t, hrun, hframe, hcount, hcells⟩ := ih (s := pushWord w { s with pending := host (pushW ws) ++ rest }) rfl
    refine ⟨t, (runSteps_succ_of_next (step_host_pushW h)).trans hrun, hframe, ?_, fun i hi => ?_⟩
    · simp only [hcount, pushWord_wcount_toNat, List.length_cons]
      omega
    · rw [hcells i hi, pushWord_wcount_toNat, pushWord_wbuf_getElem]
      exact cellAfterPushes_cons w ws s.wbuf[i] (by omega)

/-- Settles O19: PUSHB from BCOUNT = 0. -/
theorem pushbFillsTheByteBuffer : Obligations.PushbFillsTheByteBuffer := by
  intro s bs rest hempty h
  simpa [hempty] using runSteps_pushB h

/-- Settles O20: PUSHW from WCOUNT = 0. -/
theorem pushwFillsTheWordBuffer : Obligations.PushwFillsTheWordBuffer := by
  intro s ws rest hempty h
  simpa [hempty] using runSteps_pushW h

end Sys2Proof.Machine
end

section
/-! PROOFS about what a host can observe (spec/10_state.md R54, R56; spec/93_implementation_defined.md I6, I7): every
operation of the machine keeps two states indistinguishable, and so does every step. -/

namespace Sys2Proof.Machine

/-! ### Operations keep two states indistinguishable -/

namespace State.SameView

section

variable {s t : State} (h : s.SameView t)
include h

theorem answerRead (v : Word) : (answerRead v s).SameView (answerRead v t) :=
  { h with readLog := congrArg (v :: ·) h.readLog }

theorem popTurn : (popTurn s).SameView (popTurn t) :=
  { h with pending := congrArg List.tail h.pending }

theorem clearStatus (v : Word) : (clearStatus v s).SameView (clearStatus v t) :=
  { h with
    done := congrArg (· && !v.getLsbD 1) h.done
    ovr := congrArg (· && !v.getLsbD 8) h.ovr }

theorem resetEngine : (resetEngine s).SameView (resetEngine t) := by
  constructor
  case pending => exact h.pending
  case readLog => exact h.readLog
  case key | datapath | bbuf | wbuf => intros; trivial
  all_goals rfl

theorem beginCommand (c : Word) : (beginCommand c s).SameView (beginCommand c t) :=
  { h with cmdLast := rfl, done := rfl }

theorem raiseErr (e : CommandError) : (raiseErr e s).SameView (raiseErr e t) :=
  { h with err := rfl, errcode := rfl, done := rfl }

theorem succeed : (succeed s).SameView (succeed t) :=
  { h with err := rfl, errcode := rfl, done := rfl }

theorem dropCommand : (dropCommand s).SameView (dropCommand t) :=
  { h with ovr := rfl }

/-- An emptied buffer shows no cell. -/
theorem consumeBytes : (consumeBytes s).SameView (consumeBytes t) :=
  { h with bcount := rfl, bbuf := fun i _ hi => absurd hi (Nat.not_lt_zero i) }

/-- An emptied buffer shows no cell. -/
theorem consumeWords : (consumeWords s).SameView (consumeWords t) :=
  { h with wcount := rfl, wbuf := fun i _ hi => absurd hi (Nat.not_lt_zero i) }

theorem install (k : Vector Word 4) (c : Word) (ord : ByteOrder) :
    (install k c ord s).SameView (install k c ord t) :=
  { h with
    key := fun _ => rfl, actCycles := rfl, actOrder := rfl, cfgValid := rfl
    err := rfl, errcode := rfl, done := rfl }

/-- A start writes the whole datapath, so what it held before does not matter. -/
theorem startBlock (dir : Direction) (w0 w1 : Word) : (startBlock dir w0 w1 s).SameView (startBlock dir w0 w1 t) :=
  { h with
    fsm := rfl, err := rfl, errcode := rfl
    datapath := fun _ => ⟨rfl, rfl, congrArg (initialSum dir) h.actCycles, h.actCycles, rfl⟩ }

theorem pushByte (b : Byte) : (pushByte b s).SameView (pushByte b t) := by
  have hcount : (Machine.pushByte b s).bcount = (Machine.pushByte b t).bcount :=
    congrArg (fun c : BitVec 8 => if c.toNat < 255 then c + 1#8 else c) h.bcount
  refine { h with bcount := hcount, bbuf := fun i hi hlt => ?_ }
  rw [pushByte_bbuf_getElem, pushByte_bbuf_getElem, ← h.bcount]
  rw [pushByte_bcount_toNat] at hlt
  split
  · rfl
  · exact h.bbuf i hi (by omega)

theorem pushWord (w : Word) : (pushWord w s).SameView (pushWord w t) := by
  have hcount : (Machine.pushWord w s).wcount = (Machine.pushWord w t).wcount :=
    congrArg (fun c : BitVec 8 => if c.toNat < 255 then c + 1#8 else c) h.wcount
  refine { h with wcount := hcount, wbuf := fun i hi hlt => ?_ }
  rw [pushWord_wbuf_getElem, pushWord_wbuf_getElem, ← h.wcount]
  rw [pushWord_wcount_toNat] at hlt
  split
  · rfl
  · exact h.wbuf i hi (by omega)

/-! ### The engine -/

theorem datapath_eq (hfsm : s.fsm = .run) : Machine.datapath s = Machine.datapath t := by
  obtain ⟨hv0, hv1, hsum, -, -⟩ := h.datapath hfsm
  simp only [Machine.datapath, hv0, hv1, hsum]

theorem cycleStep (hfsm : s.fsm = .run) (hvalid : s.cfgValid = true) : (cycleStep s).SameView (cycleStep t) := by
  obtain ⟨-, -, -, hcnt, hdir⟩ := h.datapath hfsm
  have hcycle : cycleOf s.dir s.key (Machine.datapath s) = cycleOf t.dir t.key (Machine.datapath t) := by
    rw [hdir, h.key hvalid, h.datapath_eq hfsm]
  exact { h with
    datapath := fun _ => ⟨congrArg Datapath.v0 hcycle, congrArg Datapath.v1 hcycle, congrArg Datapath.sum hcycle,
      congrArg (· - 1#32) hcnt, hdir⟩ }

theorem completionStep (hfsm : s.fsm = .run) : (completionStep s).SameView (completionStep t) := by
  obtain ⟨hv0, hv1, -, -, -⟩ := h.datapath hfsm
  have hbytes : serialize s.actOrder s.v0 s.v1 = serialize t.actOrder t.v0 t.v1 := by rw [h.actOrder, hv0, hv1]
  exact { h with
    outW0 := hv0, outW1 := hv1, outB0 := congrArg packLow hbytes, outB1 := congrArg packHigh hbytes
    fsm := rfl, done := rfl, datapath := nofun }

/-- A turn of the engine reads KEY and the datapath while FSM = RUN only, where both are still shared: a run has a valid
configuration (R55 (a)). -/
theorem engineTurn (hinv : s.Inv) : (engineTurn s).SameView (engineTurn t) := by
  rcases engineTurn_cases s with ⟨hfsm, e⟩ | ⟨hfsm, hcnt, e⟩ | ⟨hfsm, hcnt, e⟩
  · rw [e, engineTurn_idle (h.fsm ▸ hfsm)]
    exact h
  · obtain ⟨-, -, -, hcnt', -⟩ := h.datapath hfsm
    obtain ⟨-, -, hvalid⟩ := hinv.1 hfsm
    rw [e, engineTurn_cycle (h.fsm ▸ hfsm) (hcnt' ▸ hcnt)]
    exact h.cycleStep hfsm hvalid
  · obtain ⟨-, -, -, hcnt', -⟩ := h.datapath hfsm
    rw [e, engineTurn_complete (h.fsm ▸ hfsm) (hcnt' ▸ hcnt)]
    exact h.completionStep hfsm

/-! ### Commands -/

theorem initKbBody : (initKbBody s).SameView (initKbBody t) := by
  unfold Machine.initKbBody
  rw [← h.bcount, ← h.cyclesIn, ← h.configOrder]
  split
  · exact h.consumeBytes.raiseErr _
  · rename_i hfull
    split
    · exact h.consumeBytes.raiseErr _
    · have hcells : s.bbuf = t.bbuf := Vector.ext fun i hi => h.bbuf i hi (by simpa [not_not.1 hfull] using hi)
      rw [hcells]
      exact h.consumeBytes.install _ _ _

theorem initKwBody : (initKwBody s).SameView (initKwBody t) := by
  unfold Machine.initKwBody
  rw [← h.wcount, ← h.cyclesIn, ← h.configOrder]
  split
  · exact h.consumeWords.raiseErr _
  · rename_i hfull
    split
    · exact h.consumeWords.raiseErr _
    · have hcells : s.wbuf = t.wbuf := Vector.ext fun i hi => h.wbuf i hi (by simpa [not_not.1 hfull] using hi)
      rw [hcells]
      exact h.consumeWords.install _ _ _

theorem byteBlockBody (dir : Direction) : (byteBlockBody dir s).SameView (byteBlockBody dir t) := by
  unfold Machine.byteBlockBody
  rw [← h.cfgValid, ← h.bcount, ← h.actOrder]
  split
  · exact h.consumeBytes.raiseErr _
  · split
    · exact h.consumeBytes.raiseErr _
    · rename_i hlen
      have hcell (i : Nat) (hi : i < 8) : s.bbuf[i] = t.bbuf[i] :=
        h.bbuf i (by omega) (by simpa [not_not.1 hlen] using hi)
      have h0 : blockWord0 s.actOrder s.bbuf = blockWord0 s.actOrder t.bbuf := by simp [blockWord0, hcell]
      have h1 : blockWord1 s.actOrder s.bbuf = blockWord1 s.actOrder t.bbuf := by simp [blockWord1, hcell]
      rw [h0, h1]
      exact h.consumeBytes.startBlock _ _ _

theorem wordBlockBody (dir : Direction) : (wordBlockBody dir s).SameView (wordBlockBody dir t) := by
  unfold Machine.wordBlockBody
  rw [← h.cfgValid, ← h.wcount]
  split
  · exact h.consumeWords.raiseErr _
  · split
    · exact h.consumeWords.raiseErr _
    · rename_i hlen
      have hcell (i : Nat) (hi : i < 2) : s.wbuf[i] = t.wbuf[i] :=
        h.wbuf i (by omega) (by simpa [not_not.1 hlen] using hi)
      rw [hcell 0 (by decide), hcell 1 (by decide)]
      exact h.consumeWords.startBlock _ _ _

theorem clrbufBody : (clrbufBody s).SameView (clrbufBody t) :=
  h.consumeBytes.consumeWords.succeed

theorem accept (c : Word) : (accept c s).SameView (accept c t) := by
  unfold Machine.accept
  split
  · exact (h.beginCommand c).raiseErr _
  · split
    · exact (h.beginCommand c).initKbBody
    · exact (h.beginCommand c).initKwBody
    · exact (h.beginCommand c).byteBlockBody _
    · exact (h.beginCommand c).byteBlockBody _
    · exact (h.beginCommand c).wordBlockBody _
    · exact (h.beginCommand c).wordBlockBody _
    · exact (h.beginCommand c).clrbufBody
    · exact (h.beginCommand c).raiseErr _

/-- Whether a command word is dropped shows in BUSY, so both states agree on it. -/
theorem issueCommand {body : State → State} (c : Word)
    (hbody : (body (Machine.beginCommand c s)).SameView (body (Machine.beginCommand c t))) :
    (issueCommand c body s).SameView (issueCommand c body t) := by
  unfold Machine.issueCommand
  rw [← h.fsm]
  split
  · exact h.dropCommand
  · exact hbody

/-! ### Instructions -/

theorem statusWord_eq : statusWord s = statusWord t := by
  simp only [statusWord, busy, h.wcount, h.bcount, h.actOrder, h.cfgValid, h.ovr, h.errcode, h.err, h.done, h.fsm]

theorem configWord_eq : configWord s = configWord t := by
  simp only [configWord, h.configIrqEn, h.configOrder]

/-- A read answers both states the same value. -/
theorem answerRead_of_eq {v w : Word} (hv : v = w) : (Machine.answerRead v s).SameView (Machine.answerRead w t) :=
  hv ▸ h.answerRead v

/-- One instruction, whatever it is. -/
theorem exec (i : Instr) : SameOutcome (exec i s) (exec i t) := by
  cases i with
  | initKb => exact h.issueCommand _ (h.beginCommand _).initKbBody
  | initKw => exact h.issueCommand _ (h.beginCommand _).initKwBody
  | enc => exact h.issueCommand _ ((h.beginCommand _).byteBlockBody .encipher)
  | dec => exact h.issueCommand _ ((h.beginCommand _).byteBlockBody .decipher)
  | encw => exact h.issueCommand _ ((h.beginCommand _).wordBlockBody .encipher)
  | decw => exact h.issueCommand _ ((h.beginCommand _).wordBlockBody .decipher)
  | clrbuf => exact h.issueCommand _ (h.beginCommand _).clrbufBody
  | illegalOp0 | illegalOp8F _ | illegalRsv _ _ =>
    exact h.issueCommand _ ((h.beginCommand _).raiseErr .illegalCommand)
  | wrCmd c =>
    simp only [Machine.exec, execWrCmd, ← h.fsm]
    split
    · exact h.dropCommand
    · exact h.accept c
  | rdCmd => exact h.answerRead_of_eq h.cmdLast
  | rdStatus => exact h.answerRead_of_eq h.statusWord_eq
  | rdConfig => exact h.answerRead_of_eq h.configWord_eq
  | rdCyclesIn => exact h.answerRead_of_eq h.cyclesIn
  | rdOutW0 => exact h.answerRead_of_eq h.outW0
  | rdOutW1 => exact h.answerRead_of_eq h.outW1
  | rdOutB0 => exact h.answerRead_of_eq h.outB0
  | rdOutB1 => exact h.answerRead_of_eq h.outB1
  | rdActCycles => exact h.answerRead_of_eq h.actCycles
  | rdByteIn | rdWordIn | rdInfo | rdRsvd30 | rdRsvd34 | rdRsvd38 | rdRsvd3C => exact h.answerRead _
  | wrStatus v => exact h.clearStatus v
  | wrConfig v => exact { h with configOrder := rfl, configIrqEn := rfl }
  | wrCyclesIn v => exact { h with cyclesIn := rfl }
  | wrByteIn v => exact h.pushByte _
  | wrWordIn v => exact h.pushWord v
  | wrOutW0 _ | wrOutW1 _ | wrOutB0 _ | wrOutB1 _ | wrActCycles _ | wrInfo _ => exact h
  | wrRsvd30 _ | wrRsvd34 _ | wrRsvd38 _ | wrRsvd3C _ => exact h

/-! ### Steps and runs -/

theorem irq_eq : irq s = irq t := by
  simp only [irq, h.done, h.configIrqEn]

/-- One step: the turn is the same on both sides, since the turns still to come are. -/
theorem step (hinv : s.Inv) : SameOutcome (step s) (step t) := by
  unfold Machine.step
  rw [← h.pending]
  split
  · exact h.engineTurn hinv
  · exact h.popTurn.engineTurn hinv
  · exact h.popTurn.resetEngine
  · split
    · exact h.popTurn.exec _
    · rfl

end

end State.SameView

theorem SameOutcome.next_left {s : State} {r : Result} (h : SameOutcome (.next s) r) :
    ∃ t, r = .next t ∧ s.SameView t := by
  cases r with
  | next t => exact ⟨t, rfl, h⟩
  | fault _ | refused _ => cases h

theorem SameOutcome.refused_left {q : Refusal} {r : Result} (h : SameOutcome (.refused q) r) : r = .refused q := by
  cases r with
  | refused _ => exact congrArg _ h.symm
  | next _ | fault _ => cases h

/-- Settles O59: the first steps of the two runs agree, the invariants hold after it, and so the rest agrees by
induction on the number of steps. -/
theorem hiddenStateIsNotObservable : Obligations.HiddenStateIsNotObservable := by
  intro k
  induction k with
  | zero => exact fun _ _ _ h => h
  | succ k ih =>
    intro s t hinv h
    have hstep := h.step hinv
    cases hs : step s with
    | next u =>
      rw [hs] at hstep
      obtain ⟨v, hv, huv⟩ := hstep.next_left
      rw [runSteps_succ_of_next hs, runSteps_succ_of_next hv]
      exact ih u v (hinv.step hs) huv
    | refused q =>
      rw [hs] at hstep
      rw [runSteps_succ_of_refused hs, runSteps_succ_of_refused hstep.refused_left]
      rfl
    | fault f => cases f

/-- R56: two states after reset show the same, whatever the registers hold that it marks as not observable. -/
theorem reset_sameView (l : List Turn) (key wbuf : Vector Word 4) (v0 v1 sum cnt : Word) (dir : Direction)
    (bbuf : Vector Byte 16) :
    State.SameView { State.reset with pending := l }
      { State.reset with
        pending := l, key := key, wbuf := wbuf, v0 := v0, v1 := v1, sum := sum, cnt := cnt, dir := dir
        bbuf := bbuf } := by
  constructor
  case key | datapath => exact nofun
  case bbuf | wbuf => exact fun i _ hi => absurd hi (Nat.not_lt_zero i)
  all_goals rfl

/-- Settles O60: it is O59 at two states after reset. -/
theorem hiddenResetValuesDoNotMatter : Obligations.HiddenResetValuesDoNotMatter := by
  intro k l key wbuf v0 v1 sum cnt dir bbuf t h
  have hrun := hiddenStateIsNotObservable k _ _ (reset_inv l)
    (reset_sameView l key wbuf v0 v1 sum cnt dir bbuf)
  rw [h] at hrun
  obtain ⟨u, hu, htu⟩ := hrun.next_left
  exact ⟨u, hu, htu.readLog.symm, htu.irq_eq.symm⟩

end Sys2Proof.Machine
end

section
/-! PROOFS about what the status fields show (spec/10_state.md R42 to R56): the two status words bit by bit, the
registers after reset, and the IRQ line. -/

namespace Sys2Proof.Machine

/-! ### The words that reads of STATUS and CONFIG return -/

/-- R15: the one bit of a byte order. -/
theorem ByteOrder.bit_eq_ofBool (ord : ByteOrder) : ord.bit = BitVec.ofBool (decide (ord = .le)) := by
  cases ord <;> rfl

/-- A field of a register word is read back from its own bits. -/
theorem extract_field_same {w : Nat} (x : BitVec w) (k : Nat) (h : k + w ≤ 32) :
    (x.setWidth 32 <<< k).extractLsb' k w = x := by
  apply BitVec.eq_of_getLsbD_eq
  intro i hi
  have hki : k + i < 32 := by omega
  simp [hi, hki]

/-- Bits above a field's end are not its own. -/
theorem extract_field_above {w : Nat} (x : BitVec w) (k lo n : Nat) (h : k + w ≤ lo) :
    (x.setWidth 32 <<< k).extractLsb' lo n = 0#n := by
  apply BitVec.eq_of_getLsbD_eq
  intro i hi
  have hw : w ≤ lo + i - k := by omega
  simp [BitVec.getLsbD_of_ge x _ hw]

/-- Bits below a field's start are not its own. -/
theorem extract_field_below {w : Nat} (x : BitVec w) (k lo n : Nat) (h : lo + n ≤ k) :
    (x.setWidth 32 <<< k).extractLsb' lo n = 0#n := by
  apply BitVec.eq_of_getLsbD_eq
  intro i hi
  have hk : lo + i < k := by omega
  simp [hk]

/-- The fields of STATUS do not overlap, so each is read back from its own bits, and bits 15:11 are no field's (R42). -/
theorem statusWord_fields (s : State) :
    (statusWord s).extractLsb' 4 4 = s.errcode ∧ (statusWord s).extractLsb' 11 5 = 0#5 ∧
      (statusWord s).extractLsb' 16 8 = s.bcount ∧ (statusWord s).extractLsb' 24 8 = s.wcount := by
  have hbusy : (BitVec.ofBool (busy s)).setWidth 32 = (BitVec.ofBool (busy s)).setWidth 32 <<< 0 := by simp
  rw [statusWord, hbusy]
  simp (disch := decide) only [BitVec.extractLsb'_or, extract_field_same, extract_field_above, extract_field_below,
    BitVec.or_zero, BitVec.zero_or, and_self]

/-- Settles O12: the fields of more than one bit by `statusWord_fields`, the single bits one by one. -/
theorem statusReadShowsEveryField : Obligations.StatusReadShowsEveryField := by
  intro s
  obtain ⟨herrcode, hreserved, hbcount, hwcount⟩ := statusWord_fields s
  refine ⟨statusWord s, rfl, ?_, ?_, ?_, ?_, herrcode, ?_, ?_, ?_, hreserved, hbcount, hwcount⟩
  all_goals simp [statusWord, busy, ByteOrder.bit_eq_ofBool]

/-- Settles O13: CONFIG is two bits put side by side, with zeros above. -/
theorem configReadShowsBothFields : Obligations.ConfigReadShowsBothFields := by
  intro s
  refine ⟨configWord s, rfl, ?_, ?_, ?_⟩
  · rw [configWord, BitVec.getLsbD_setWidth, BitVec.getLsbD_append]
    simp [ByteOrder.bit_eq_ofBool]
  · rw [configWord, BitVec.getLsbD_setWidth, BitVec.getLsbD_append]
    simp
  · apply BitVec.eq_of_getLsbD_eq
    intro i hi
    simp [configWord]

/-! ### Reset -/

/-- Settles O57: what the reset turn answers is `State.reset` with the host's own fields kept. -/
theorem resetSetsEveryRegister : Obligations.ResetSetsEveryRegister := by
  intro s rest h
  have hkey : State.reset.key = Vector.replicate 4 0#32 := rfl
  have hbbuf : State.reset.bbuf = Vector.replicate 16 0#8 := rfl
  have hwbuf : State.reset.wbuf = Vector.replicate 4 0#32 := rfl
  refine ⟨_, step_reset h, ?_⟩
  simp only [resetEngine, hkey, hbbuf, hwbuf, Vector.getElem_replicate]
  simp [State.reset]

/-! ### The IRQ line -/

/-- After a command is accepted, DONE says whether it ended in the same transition (R241). -/
theorem exec_accepted_done {i : Instr} {s t : State} (hi : issuesCommand i = true) (hs : s.fsm = .idle)
    (h : exec i s = .next t) : t.done = decide (t.fsm = .idle) ∧ t.configIrqEn = s.configIrqEn := by
  rcases exec_command_outcomes hi hs h with ⟨_, _, _, _, rfl⟩ | ⟨_, _, rfl⟩ | ⟨_, _, _, _, _, _, rfl⟩ |
    ⟨_, _, _, _, _, _, _, _, rfl⟩ <;> simp [hs]

/-- Settles O58: the level after each of the four kinds of transition. -/
theorem irqFollowsDoneAndItsEnable : Obligations.IrqFollowsDoneAndItsEnable := by
  refine ⟨fun i s t hi hs h => ?_, fun s rest hp hfsm hcnt => ?_, fun s v hv => ?_, fun s v hv hdone => ?_⟩
  · obtain ⟨hdone, hirqEn⟩ := exec_accepted_done hi hs h
    exact ⟨fun hfsm => by simp [irq, hdone, hirqEn, hfsm], fun hfsm => by simp [irq, hdone, hfsm]⟩
  · refine ⟨_, (step_engine hp).trans (congrArg _ (engineTurn_complete hfsm hcnt)), ?_⟩
    simp [irq]
  · exact ⟨_, rfl, by simp [irq, hv]⟩
  · exact ⟨_, rfl, by simpa [irq, hdone] using hv, hdone⟩

end Sys2Proof.Machine
end

section
/-! PROOFS of the memory statements (spec/20_memory.md): which bus accesses are instructions (R90, R113), how a step
uses up the host's turns (R93), what an access leaves alone while a command runs (R97), and the byte lanes (R84). -/

namespace Sys2Proof

/-! ### The accesses that decode -/

/-- R90: what `defined` decides. -/
theorem BusAccess.defined_iff (a : BusAccess) :
    a.defined = true ↔ a.size = .word ∧ 0 ≤ a.offset ∧ a.offset < 64 ∧ a.offset % 4 = 0 :=
  decide_eq_true_iff

/-- The table of bus operations has a row for every aligned pattern: thirty-two of them (R113). -/
theorem decodeBusop_ok_of_aligned {p : BitVec 7} (d : Word) (h : p.toNat % 4 = 0) : ∃ i, decodeBusop p d = .ok i := by
  obtain ⟨row, hrow⟩ := Nat.dvd_of_mod_eq_zero h
  have hp := p.isLt
  have hlt : row < 32 := by omega
  unfold decodeBusop
  rw [hrow]
  interval_cases row <;> exact ⟨_, rfl⟩

/-- The patterns of bus operations are those whose offset is a multiple of 4 (R113). -/
theorem decodeBusop_ok_iff (p : BitVec 7) (d : Word) : (∃ i, decodeBusop p d = .ok i) ↔ p.toNat % 4 = 0 := by
  refine ⟨fun ⟨i, hi⟩ => ?_, decodeBusop_ok_of_aligned d⟩
  obtain ⟨off, -, haligned, hpattern, -⟩ := decodeBusop_ok_inv hi
  rcases hpattern with ⟨hp, -⟩ | ⟨hp, -⟩ <;> omega

/-- The pattern of an access of either direction is aligned exactly when its offset is. -/
theorem busPattern_aligned_iff (w : Bool) (off : Int) :
    (busPattern w (BitVec.ofInt 6 off)).toNat % 4 = 0 ↔ off % 4 = 0 := by
  rw [busPattern_toNat, BitVec.toNat_ofInt]
  split <;> omega

/-- Inside the window an access is looked up by its pattern, whatever its direction. -/
theorem decodeAccess_eq_decodeBusop {a : BusAccess} (hsize : a.size = .word) (h0 : 0 ≤ a.offset) (h : a.offset < 64) :
    ∃ (w : Bool) (d : Word), decodeAccess a = decodeBusop (busPattern w (BitVec.ofInt 6 a.offset)) d := by
  obtain ⟨size, off, op⟩ := a
  cases hsize
  cases op with
  | read => exact ⟨false, 0#32, decodeAccess_read off h0 h⟩
  | write d => exact ⟨true, d, decodeAccess_write off d h0 h⟩

/-- The decoder accepts the accesses that the spec defines and no other (R90). -/
theorem decodeAccess_ok_iff (a : BusAccess) : (∃ i, decodeAccess a = .ok i) ↔ a.defined = true := by
  have hwindow (hsize : a.size = .word) (h0 : 0 ≤ a.offset) (h : a.offset < 64) :
      (∃ i, decodeAccess a = .ok i) ↔ a.offset % 4 = 0 := by
    obtain ⟨w, d, e⟩ := decodeAccess_eq_decodeBusop hsize h0 h
    rw [e, decodeBusop_ok_iff, busPattern_aligned_iff]
  rw [BusAccess.defined_iff]
  constructor
  · rintro ⟨i, hi⟩
    obtain ⟨hsize, h0, h⟩ := decodeAccess_ok_inv hi
    exact ⟨hsize, h0, h, (hwindow hsize h0 h).1 ⟨i, hi⟩⟩
  · rintro ⟨hsize, h0, h, haligned⟩
    exact (hwindow hsize h0 h).2 haligned

theorem decodeAccess_error_of_not_defined {a : BusAccess} (h : ¬a.defined = true) : ∃ e, decodeAccess a = .error e := by
  cases hd : decodeAccess a with
  | ok i => exact absurd ((decodeAccess_ok_iff a).1 ⟨i, hd⟩) h
  | error e => exact ⟨e, rfl⟩

end Sys2Proof

namespace Sys2Proof.Machine

/-! ### Steps whose next turn is a host access -/

/-- Settles O5: the one equation of `step` for an access that decodes. -/
theorem stepRunsTheDecodedInstruction : Obligations.StepRunsTheDecodedInstruction :=
  fun _ _ _ _ hpending hdecode => step_access hpending hdecode

/-- A defined access completes in its one step (R260). -/
theorem step_access_defined {s : State} {a : BusAccess} {rest : List Turn} (h : s.pending = .access a :: rest)
    (ha : a.defined = true) : ∃ t, step s = .next t := by
  obtain ⟨i, hi⟩ := (decodeAccess_ok_iff a).2 ha
  rw [step_access h hi]
  exact exec_next i _

/-- Settles O7: the decoder accepts exactly the defined accesses, no instruction stops the machine, and what does not
decode is refused. -/
theorem onlyDefinedAccessesHaveAMeaning : Obligations.OnlyDefinedAccessesHaveAMeaning := by
  intro s a rest h
  rw [← BusAccess.defined_iff]
  refine ⟨fun hundefined => ?_, fun hsize h0 hlt haligned => ?_⟩
  · obtain ⟨e, he⟩ := decodeAccess_error_of_not_defined hundefined
    exact ⟨e, step_access_error h he⟩
  · exact step_access_defined h ((BusAccess.defined_iff a).2 ⟨hsize, h0, hlt, haligned⟩)

/-! ### Schedules of defined accesses -/

@[simp] theorem engineTurn_pending (s : State) : (engineTurn s).pending = s.pending := by
  rcases engineTurn_cases s with ⟨-, e⟩ | ⟨-, -, e⟩ | ⟨-, -, e⟩ <;> rw [e]
  · rw [cycleStep_pending]
  · rw [completionStep_pending]

/-- A step takes the turn it runs off the list and adds none (R93). -/
theorem step_pending {s t : State} (h : step s = .next t) : t.pending = s.pending.tail := by
  rcases step_next_cases h with ⟨hp, rfl⟩ | ⟨rest, hp, rfl⟩ | ⟨rest, hp, rfl⟩ | ⟨a, rest, i, hp, -, ht⟩
  · rw [engineTurn_pending, hp, List.tail_nil]
  · rw [engineTurn_pending, hp, List.tail_cons]
  · rw [hp]; rfl
  · rw [exec_pending ht, hp, List.tail_cons]

/-- Only an access can stop the machine, and a defined one does not. -/
theorem State.SafeSchedule.step_next {s : State} (hs : s.SafeSchedule) : ∃ t, step s = .next t := by
  cases hp : s.pending with
  | nil => exact ⟨_, step_nil hp⟩
  | cons turn rest =>
    cases turn with
    | engine => exact ⟨_, step_engine hp⟩
    | reset => exact ⟨_, step_reset hp⟩
    | access a => exact step_access_defined hp (hs a (by simp [hp]))

theorem State.SafeSchedule.of_step {s t : State} (hs : s.SafeSchedule) (h : step s = .next t) : t.SafeSchedule := by
  intro a ha
  rw [step_pending h] at ha
  exact hs a (List.mem_of_mem_tail ha)

/-- Settles O9, by induction on the number of steps: a safe schedule lets the first step through and stays safe. -/
theorem safeSchedulesNeverStop : Obligations.SafeSchedulesNeverStop := by
  intro k
  induction k with
  | zero => exact fun s hs => ⟨s, runSteps_zero s, hs⟩
  | succ k ih =>
    intro s hs
    obtain ⟨u, hu⟩ := hs.step_next
    rw [runSteps_succ_of_next hu]
    exact ih u (hs.of_step hu)

/-! ### Host accesses while a command runs -/

/-- Settles O56: a command word is dropped while FSM = RUN and only raises OVR (R242), and the other instructions never
reach further than the buffers, the staging registers, DONE and OVR. -/
theorem hostAccessesLeaveARunAlone : Obligations.HostAccessesLeaveARunAlone := by
  intro i s hrun
  cases hi : issuesCommand i with
  | true => exact ⟨_, exec_command_run hi hrun, rfl⟩
  | false =>
    obtain ⟨t, ht⟩ := exec_next i s
    obtain ⟨hframe, -, -⟩ := exec_other hi ht
    exact ⟨t, ht, hframe⟩

/-! ### Byte lanes -/

theorem bytesOf_wordOf (ord : ByteOrder) (b0 b1 b2 b3 : Byte) :
    bytesOf ord (wordOf ord b0 b1 b2 b3) = #v[b0, b1, b2, b3] := by
  cases ord with
  | be =>
    obtain ⟨h0, h8, h16, h24⟩ := extract_append b0 b1 b2 b3
    simp only [bytesOf, wordOf, wordBE, h0, h8, h16, h24]
  | le =>
    obtain ⟨h0, h8, h16, h24⟩ := extract_append b3 b2 b1 b0
    simp only [bytesOf, wordOf, wordLE, h0, h8, h16, h24]

theorem wordOf_bytesOf (ord : ByteOrder) (w : Word) :
    wordOf ord (bytesOf ord w)[0] (bytesOf ord w)[1] (bytesOf ord w)[2] (bytesOf ord w)[3] = w := by
  cases ord <;> exact append_extract w

/-- Settles O39: in either order the four lanes are cut where they were joined. -/
theorem bytesAndWordsAreInverse : Obligations.BytesAndWordsAreInverse :=
  fun ord b0 b1 b2 b3 w => ⟨bytesOf_wordOf ord b0 b1 b2 b3, wordOf_bytesOf ord w⟩

end Sys2Proof.Machine
end

section
/-! PROOFS of the encoding statements (spec/30_encoding.md): the decoder and the encoder undo one another (R110 to
R116), and the write of a command word to CMD runs the row it encodes (R119). -/

namespace Sys2Proof

/-! ### Command words -/

/-- Every command word is one of the sixteen with RSV = 0, or has a reserved bit set (R110, R112). -/
theorem commandWord_cases {P : Word → Prop} (hop : ∀ op : BitVec 4, P (0#28 ++ op))
    (hrsv : ∀ (rsv : BitVec 28) (op : BitVec 4), rsv ≠ 0#28 → P (rsv ++ op)) (c : Word) : P c := by
  rw [← rsvField_opField c]
  by_cases h : rsvField c = 0#28
  · rw [h]
    exact hop (opField c)
  · exact hrsv (rsvField c) (opField c) h

/-- R112: RSV decides before OP. -/
theorem decodeCommand_append {rsv : BitVec 28} (op : BitVec 4) (h : rsv ≠ 0#28) :
    decodeCommand (rsv ++ op) = .illegalRsv op rsv := by
  rw [decodeCommand, rsvField_append, opField_append, if_pos h]

/-- R116: the words 8 to 15. -/
theorem decodeCommand_op8F : ∀ op : BitVec 3, decodeCommand (0#28 ++ (1#1 ++ op)) = .illegalOp8F op := by
  decide

theorem decodeCommand_wf (c : Word) : (decodeCommand c).wf = true := by
  induction c using commandWord_cases with
  | hop op => revert op; decide
  | hrsv rsv op h =>
    rw [decodeCommand_append op h]
    exact decide_eq_true h

/-- The sixteen words of the command map (R111, R116) are decoded one by one; in any other the fields stay apart. -/
theorem encode_decodeCommand (c : Word) : encode (decodeCommand c) = .command c := by
  induction c using commandWord_cases with
  | hop op => revert op; decide
  | hrsv rsv op h =>
    rw [decodeCommand_append op h]
    rfl

/-- Settles O1, row by row: the two rows of illegal words give their fields back and a write its data; every other
row is encoded by a fixed word or a read at a fixed offset, which the decoder looks up. -/
theorem decodingAnEncodedInstructionGivesItBack : Obligations.DecodingAnEncodedInstructionGivesItBack := by
  intro i hwf
  cases i with
  | illegalOp8F op => exact congrArg Except.ok (decodeCommand_op8F op)
  | illegalRsv op rsv => exact congrArg Except.ok (decodeCommand_append op (of_decide_eq_true hwf))
  | wrCmd v | wrStatus v | wrConfig v | wrCyclesIn v | wrByteIn v | wrWordIn v | wrOutW0 v | wrOutW1 v | wrOutB0 v
  | wrOutB1 v | wrActCycles v | wrInfo v | wrRsvd30 v | wrRsvd34 v | wrRsvd38 v | wrRsvd3C v =>
    exact decodeAccess_write _ v (by decide) (by decide)
  | _ => rfl

/-! ### Bus operations -/

/-- The pattern of an access inside the window is its offset, with 64 added for a write (R113). -/
theorem busPattern_ofInt_toNat (w : Bool) {off : Int} (h0 : 0 ≤ off) (h : off < 64) :
    ((busPattern w (BitVec.ofInt 6 off)).toNat : Int) = (if w then 64 else 0) + off := by
  rw [busPattern_toNat, BitVec.toNat_ofInt]
  split <;> omega

theorem wf_and_encode_of_decodeAccess {a : BusAccess} {i : Instr} (hd : decodeAccess a = .ok i) :
    i.wf = true ∧ encode i = .bus a := by
  obtain ⟨size, off, op⟩ := a
  obtain ⟨rfl, h0 : 0 ≤ off, h : off < 64⟩ := decodeAccess_ok_inv hd
  cases op with
  | read =>
    rw [decodeAccess_read off h0 h] at hd
    obtain ⟨n, hn, -, hpattern, hwf⟩ := decodeBusop_ok_inv hd
    have hp := busPattern_ofInt_toNat false h0 h
    simp only [Bool.false_eq_true, if_false] at hp
    obtain ⟨hpn, henc⟩ | ⟨hpn, -⟩ := hpattern
    · have hoff : off = n := by omega
      exact ⟨hwf, hoff ▸ henc⟩
    · omega
  | write d =>
    rw [decodeAccess_write off d h0 h] at hd
    obtain ⟨n, hn, -, hpattern, hwf⟩ := decodeBusop_ok_inv hd
    have hp := busPattern_ofInt_toNat true h0 h
    simp only [if_true] at hp
    obtain ⟨hpn, -⟩ | ⟨hpn, henc⟩ := hpattern
    · omega
    · have hoff : off = n := by omega
      exact ⟨hwf, hoff ▸ henc⟩

/-- Settles O2: one lemma for each of the two encoded forms. -/
theorem everyEncodedFormHasOneMeaning : Obligations.EveryEncodedFormHasOneMeaning := by
  intro c i h
  cases c with
  | command w =>
    cases h
    exact ⟨decodeCommand_wf w, encode_decodeCommand w⟩
  | bus a => exact wf_and_encode_of_decodeAccess h

/-- Bits 1:0 of a pattern are those of its offset. -/
theorem extractLsb'_two_eq_zero_iff (p : BitVec 7) : p.extractLsb' 0 2 = 0#2 ↔ p.toNat % 4 = 0 := by
  rw [← BitVec.toNat_inj, BitVec.extractLsb'_toNat]
  rfl

theorem readAt_inj {m n : Int} : readAt m = readAt n ↔ m = n := by
  simp [readAt]

theorem writeAt_inj {m n : Int} {d e : Word} : writeAt m d = writeAt n e ↔ m = n ∧ d = e := by
  simp [writeAt]

theorem readAt_ne_writeAt {m n : Int} {d : Word} : readAt m ≠ writeAt n d := by
  simp [readAt, writeAt]

/-- The pattern can be read off the encoding of the operation: bit 6 off the direction, the rest off the offset. -/
theorem decodeBusop_pattern_unique {p q : BitVec 7} {d e : Word} {i : Instr} (hp : decodeBusop p d = .ok i)
    (hq : decodeBusop q e = .ok i) : p = q := by
  obtain ⟨m, -, -, hm, -⟩ := decodeBusop_ok_inv hp
  obtain ⟨n, -, -, hn, -⟩ := decodeBusop_ok_inv hq
  apply BitVec.eq_of_toNat_eq
  rcases hm with ⟨hm, hencp⟩ | ⟨hm, hencp⟩ <;> rcases hn with ⟨hn, hencq⟩ | ⟨hn, hencq⟩ <;> rw [hencp] at hencq
  · have hoff : (m : Int) = n := readAt_inj.1 hencq
    omega
  · exact absurd hencq readAt_ne_writeAt
  · exact absurd hencq.symm readAt_ne_writeAt
  · have hoff : (m : Int) = n := (writeAt_inj.1 hencq).1
    omega

/-- Settles O4: the aligned patterns are the rows of the table, and an operation's encoding names its pattern. -/
theorem patternsAreDefinedIffAligned : Obligations.PatternsAreDefinedIffAligned :=
  ⟨fun p d => (decodeBusop_ok_iff p d).trans (extractLsb'_two_eq_zero_iff p).symm,
    fun _ _ _ _ _ => decodeBusop_pattern_unique⟩

/-- Settles O3: each word is decoded. -/
theorem wordsOfTheTablesDecode : Obligations.WordsOfTheTablesDecode := by
  unfold Obligations.WordsOfTheTablesDecode
  decide

end Sys2Proof

namespace Sys2Proof.Machine

/-! ### What a command word does -/

/-- What an accepted command does after its word is recorded (R241). `accept_eq_commandBody` and
`exec_of_encode_command` tie it to the two places where the model says so. -/
def commandBody : Instr → State → State
  | .initKb => initKbBody
  | .initKw => initKwBody
  | .enc => byteBlockBody .encipher
  | .dec => byteBlockBody .decipher
  | .encw => wordBlockBody .encipher
  | .decw => wordBlockBody .decipher
  | .clrbuf => clrbufBody
  | _ => raiseErr .illegalCommand

/-- Acceptance reads the fields of the word as the decoder does. -/
theorem accept_eq_commandBody (c : Word) (s : State) :
    accept c s = commandBody (decodeCommand c) (beginCommand c s) := by
  unfold accept decodeCommand rsvField opField
  split
  · rfl
  · generalize (c.extractLsb' 0 4).toNat = n
    rcases n with _ | _ | _ | _ | _ | _ | _ | _ | n <;> rfl

theorem exec_wrCmd (c : Word) (s : State) :
    exec (.wrCmd c) s = .next (issueCommand c (commandBody (decodeCommand c)) s) := by
  rw [exec, execWrCmd, issueCommand, accept_eq_commandBody]

/-- A command row issues its word, with its own body. -/
theorem exec_of_encode_command {i : Instr} {c : Word} (henc : encode i = .command c) (s : State) :
    exec i s = .next (issueCommand c (commandBody i) s) := by
  cases i with
  | initKb | initKw | enc | dec | encw | decw | clrbuf | illegalOp0 | illegalOp8F _ | illegalRsv _ _ =>
    cases henc
    rfl
  | _ => cases henc

/-- R119: a command row is the write of its word to CMD. -/
theorem exec_wrCmd_of_encode {i : Instr} {c : Word} (hwf : i.wf = true) (henc : encode i = .command c) (s : State) :
    exec (.wrCmd c) s = exec i s := by
  have hdec : decodeCommand c = i := by
    have h := decodingAnEncodedInstructionGivesItBack i hwf
    rw [henc] at h
    exact Except.ok.inj h
  rw [exec_wrCmd, hdec, exec_of_encode_command henc]

/-- Settles O6: a bus operation is issued by the access it decodes from (O1), a command row by a write of CMD. -/
theorem issuingAnInstructionRunsIt : Obligations.IssuingAnInstructionRunsIt := by
  intro s i rest hwf hpending
  cases henc : encode i with
  | command c =>
    rw [issue, henc] at hpending
    rw [step_access (i := .wrCmd c) hpending (decodeAccess_write 0 c (by decide) (by decide))]
    exact exec_wrCmd_of_encode hwf henc _
  | bus a =>
    rw [issue, henc] at hpending
    have hdec := decodingAnEncodedInstructionGivesItBack i hwf
    rw [henc] at hdec
    exact step_access hpending hdec

/-- The seven commands are encoded by 1 to 7 (R111); any other word is reported. -/
theorem commandBody_of_illegal {i : Instr} {c : Word} (henc : encode i = .command c)
    (hc : ¬(1 ≤ c.toNat ∧ c.toNat ≤ 7)) : commandBody i = raiseErr .illegalCommand := by
  cases i with
  | initKb | initKw | enc | dec | encw | decw | clrbuf =>
    cases henc
    exact absurd (by decide) hc
  | _ => rfl

/-- Settles O25: what such a word decodes to encodes it again (O2), so it is none of the seven commands. -/
theorem illegalWordsReportIllegalCommand : Obligations.IllegalWordsReportIllegalCommand := by
  intro c s hidle hc
  rw [exec_wrCmd, issueCommand_idle hidle, commandBody_of_illegal (encode_decodeCommand c) hc]
  rfl

end Sys2Proof.Machine
end

section
/-! PROOFS of the key-schedule statements (spec/40_key_schedule.md): what INIT_KB and INIT_KW answer when they install a
key and when they fail. -/

namespace Sys2Proof.Machine

/-! ### What the two commands check and read -/

/-- R146 in the words of the statements: from 1 to 2^31 - 1. -/
theorem legalCycles_iff_le (c : Word) : legalCycles c = true ↔ 1 ≤ c.toNat ∧ c.toNat ≤ 2 ^ 31 - 1 := by
  rw [legalCycles_iff, Nat.le_sub_one_iff_lt (by decide)]

theorem wordOf_be (b0 b1 b2 b3 : Byte) : wordOf .be b0 b1 b2 b3 = b0 ++ b1 ++ b2 ++ b3 := rfl

theorem wordOf_le (b0 b1 b2 b3 : Byte) : wordOf .le b0 b1 b2 b3 = b3 ++ b2 ++ b1 ++ b0 := rfl

/-- R85, for each key word. -/
theorem splitKey_getElem (ord : ByteOrder) (k : Vector Byte 16) (i : Nat) (h : i < 4) :
    (splitKey ord k)[i] = wordOf ord k[4 * i] k[4 * i + 1] k[4 * i + 2] k[4 * i + 3] := by
  match i with
  | 0 | 1 | 2 | 3 => rfl

/-! ### The two commands, accepted -/

theorem exec_initKb_idle {s : State} (h : s.fsm = .idle) :
    exec .initKb s = .next (initKbBody (beginCommand 1#32 s)) := by
  rw [exec_of_encode_command (c := 1#32) rfl, issueCommand_idle h, commandBody]

theorem exec_initKw_idle {s : State} (h : s.fsm = .idle) :
    exec .initKw s = .next (initKwBody (beginCommand 2#32 s)) := by
  rw [exec_of_encode_command (c := 2#32) rfl, issueCommand_idle h, commandBody]

theorem initKbBody_wrongLength {s : State} (hlen : s.bcount ≠ 16#8) :
    initKbBody s = raiseErr .invalidKeyLength (consumeBytes s) := by
  simpa [hlen] using initKbBody_cases s

theorem initKbBody_illegalCycles {s : State} (hlen : s.bcount = 16#8) (hbad : ¬legalCycles s.cyclesIn = true) :
    initKbBody s = raiseErr .invalidCycleCount (consumeBytes s) := by
  simpa [hlen, hbad] using initKbBody_cases s

theorem initKbBody_installs {s : State} (hlen : s.bcount = 16#8) (hlegal : legalCycles s.cyclesIn = true) :
    initKbBody s = install (splitKey s.configOrder s.bbuf) s.cyclesIn s.configOrder (consumeBytes s) := by
  simpa [hlen, hlegal] using initKbBody_cases s

theorem initKwBody_wrongLength {s : State} (hlen : s.wcount ≠ 4#8) :
    initKwBody s = raiseErr .invalidKeyWords (consumeWords s) := by
  simpa [hlen] using initKwBody_cases s

theorem initKwBody_illegalCycles {s : State} (hlen : s.wcount = 4#8) (hbad : ¬legalCycles s.cyclesIn = true) :
    initKwBody s = raiseErr .invalidCycleCount (consumeWords s) := by
  simpa [hlen, hbad] using initKwBody_cases s

theorem initKwBody_installs {s : State} (hlen : s.wcount = 4#8) (hlegal : legalCycles s.cyclesIn = true) :
    initKwBody s = install s.wbuf s.cyclesIn s.configOrder (consumeWords s) := by
  simpa [hlen, hlegal] using initKwBody_cases s

/-! ### The statements -/

/-- Settles O29: the installed key is the split of the byte buffer, read word by word in the order of CONFIG. -/
theorem initKbInstallsTheByteKey : Obligations.InitKbInstallsTheByteKey := by
  intro s hidle hlen hpos hmax
  have hlegal := (legalCycles_iff_le s.cyclesIn).2 ⟨hpos, hmax⟩
  refine ⟨_, exec_initKb_idle hidle, ?_⟩
  rw [initKbBody_installs (s := beginCommand 1#32 s) hlen hlegal]
  refine ⟨rfl, fun i h => ?_⟩
  have hword := splitKey_getElem s.configOrder s.bbuf i h
  constructor
  · intro hbe
    simpa [hbe, wordOf_be] using hword
  · intro hle
    simpa [hle, wordOf_le] using hword

/-- Settles O30: the word path has no byte-order step, so the installed key is the word buffer itself. -/
theorem initKwInstallsTheWordKey : Obligations.InitKwInstallsTheWordKey := by
  intro s hidle hlen hpos hmax
  have hlegal := (legalCycles_iff_le s.cyclesIn).2 ⟨hpos, hmax⟩
  rw [exec_initKw_idle hidle, initKwBody_installs (s := beginCommand 2#32 s) hlen hlegal]
  rfl

/-- Settles O31: a report writes no part of the configuration, and the cycle count is looked at only under the right
length. -/
theorem initFailuresKeepTheConfiguration : Obligations.InitFailuresKeepTheConfiguration := by
  intro s hidle
  rw [exec_initKb_idle hidle, exec_initKw_idle hidle, ← legalCycles_iff_le]
  refine ⟨fun hlen => ?_, fun hlen hbad => ?_, fun hlen => ?_, fun hlen hbad => ?_⟩
  · exact congrArg _ (initKbBody_wrongLength (s := beginCommand 1#32 s) hlen)
  · exact congrArg _ (initKbBody_illegalCycles (s := beginCommand 1#32 s) hlen hbad)
  · exact congrArg _ (initKwBody_wrongLength (s := beginCommand 2#32 s) hlen)
  · exact congrArg _ (initKwBody_illegalCycles (s := beginCommand 2#32 s) hlen hbad)

end Sys2Proof.Machine
end

section
/-! PROOFS of the Feistel engine statements (spec/41_feistel_engine.md): one cycle and its inverse, many cycles and
their sum, the engine's two steps, and a run to its end, alone and between the host's accesses. -/

namespace Sys2Proof.Machine

/-! ### Cycles undo one another -/

theorem decCycle_encCycle (key : Vector Word 4) (d : Datapath) : decCycle key (encCycle key d) = d := by
  simp only [decCycle, encCycle, BitVec.add_sub_cancel]

theorem encCycle_decCycle (key : Vector Word 4) (d : Datapath) : encCycle key (decCycle key d) = d := by
  simp only [decCycle, encCycle, BitVec.sub_add_cancel]

/-- Settles O40: each half-round of one cycle takes back what the other has added, from the same inputs. -/
theorem oneCycleUndoesTheOther : Obligations.OneCycleUndoesTheOther :=
  fun key d => ⟨decCycle_encCycle key d, encCycle_decCycle key d⟩

/-- The last cycle of the one transform is undone by the first of the other. -/
theorem decCycles_encCycles (key : Vector Word 4) (n : Nat) (d : Datapath) :
    decCycles key n (encCycles key n d) = d := by
  induction n with
  | zero => rfl
  | succ n ih => rw [encCycles_succ_last, decCycles, decCycle_encCycle, ih]

theorem encCycles_decCycles (key : Vector Word 4) (n : Nat) (d : Datapath) :
    encCycles key n (decCycles key n d) = d := by
  induction n with
  | zero => rfl
  | succ n ih => rw [decCycles_succ_last, encCycles, encCycle_decCycle, ih]

/-! ### The sum -/

theorem encCycles_sum (key : Vector Word 4) (n : Nat) (d : Datapath) :
    (encCycles key n d).sum = d.sum + delta * BitVec.ofNat 32 n := by
  induction n with
  | zero => simp [encCycles]
  | succ n ih => rw [encCycles_succ_last, delta_mul_succ, ← BitVec.add_assoc, ← ih]; rfl

theorem decCycles_sum (key : Vector Word 4) (n : Nat) (d : Datapath) :
    (decCycles key n d).sum = d.sum - delta * BitVec.ofNat 32 n := by
  induction n with
  | zero => simp [decCycles]
  | succ n ih => rw [decCycles_succ_last, delta_mul_succ, ← BitVec.sub_sub, ← ih]; rfl

/-- Settles O41: every encipher cycle adds DELTA to the sum and every decipher cycle takes it away. -/
theorem theSumFollowsTheCycles : Obligations.TheSumFollowsTheCycles := by
  intro key w0 w1 n
  rw [encCycles_sum, decCycles_sum, ofNat_delta_mul]
  exact ⟨BitVec.zero_add _, BitVec.sub_self _⟩

/-! ### The two transforms -/

/-- The whole datapath that encipher ends with (R181): its sum is the one that decipher starts from (R180). -/
theorem encCycles_eq_encipher (key : Vector Word 4) (block : Word × Word) (n : Nat) :
    encCycles key n { v0 := block.1, v1 := block.2, sum := 0#32 } =
      { v0 := (encipher key block n).1, v1 := (encipher key block n).2, sum := delta * BitVec.ofNat 32 n } := by
  have hsum := encCycles_sum key n { v0 := block.1, v1 := block.2, sum := 0#32 }
  rw [BitVec.zero_add] at hsum
  rw [← hsum]
  rfl

/-- The whole datapath that decipher ends with (R181): its sum is the one that encipher starts from (R180). -/
theorem decCycles_eq_decipher (key : Vector Word 4) (block : Word × Word) (n : Nat) :
    decCycles key n { v0 := block.1, v1 := block.2, sum := delta * BitVec.ofNat 32 n } =
      { v0 := (decipher key block n).1, v1 := (decipher key block n).2, sum := 0#32 } := by
  have hsum := decCycles_sum key n { v0 := block.1, v1 := block.2, sum := delta * BitVec.ofNat 32 n }
  rw [BitVec.sub_self] at hsum
  rw [← hsum]
  rfl

/-- R182. -/
theorem decipher_encipher (key : Vector Word 4) (block : Word × Word) (n : Nat) :
    decipher key (encipher key block n) n = block := by
  rw [decipher, ← encCycles_eq_encipher, decCycles_encCycles]

/-- R182. -/
theorem encipher_decipher (key : Vector Word 4) (block : Word × Word) (n : Nat) :
    encipher key (decipher key block n) n = block := by
  rw [encipher, ← decCycles_eq_decipher, encCycles_decCycles]

/-- Settles O42: the cycles undo one another and the sums match; no cycle at all changes nothing (R183). -/
theorem decipherInvertsEncipher : Obligations.DecipherInvertsEncipher :=
  fun key block n => ⟨decipher_encipher key block n, encipher_decipher key block n, rfl, rfl⟩

/-- `n` cycles in the direction `dir`. `transform_eq_cyclesOf` ties it to the pure transform, `cyclesOf_succ` to the
engine's cycle. -/
def cyclesOf (dir : Direction) (key : Vector Word 4) (n : Nat) (d : Datapath) : Datapath :=
  match dir with
  | .encipher => encCycles key n d
  | .decipher => decCycles key n d

@[simp] theorem cyclesOf_zero (dir : Direction) (key : Vector Word 4) (d : Datapath) : cyclesOf dir key 0 d = d := by
  cases dir <;> rfl

theorem cyclesOf_succ (dir : Direction) (key : Vector Word 4) (n : Nat) (d : Datapath) :
    cyclesOf dir key (n + 1) d = cyclesOf dir key n (cycleOf dir key d) := by
  cases dir <;> rfl

theorem transform_eq_cyclesOf (dir : Direction) (key : Vector Word 4) (w0 w1 c : Word) :
    transform dir key (w0, w1) c.toNat =
      ((cyclesOf dir key c.toNat { v0 := w0, v1 := w1, sum := initialSum dir c }).v0,
        (cyclesOf dir key c.toNat { v0 := w0, v1 := w1, sum := initialSum dir c }).v1) := by
  cases dir with
  | encipher => rfl
  | decipher => simp only [transform, decipher, cyclesOf, initialSum, BitVec.ofNat_toNat, BitVec.setWidth_eq]

/-! ### The engine's turns -/

theorem toNat_sub_one {c : Word} (h : c ≠ 0#32) : (c - 1#32).toNat = c.toNat - 1 := by
  have hpos : c.toNat ≠ 0 := fun h0 => h (BitVec.eq_of_toNat_eq h0)
  bv_omega

/-- The engine cycle step as a step of the whole machine (R184). -/
theorem step_cycle {s : State} {rest : List Turn} (hp : s.pending = .engine :: rest) (hrun : s.fsm = .run)
    (hcnt : s.cnt ≠ 0#32) : step s = .next (cycleStep { s with pending := rest }) := by
  rw [step_engine hp, engineTurn_cycle (s := { s with pending := rest }) hrun hcnt]

/-- The engine completion step as a step of the whole machine (R185). -/
theorem step_completion {s : State} {rest : List Turn} (hp : s.pending = .engine :: rest) (hrun : s.fsm = .run)
    (hcnt : s.cnt = 0#32) : step s = .next (completionStep { s with pending := rest }) := by
  rw [step_engine hp, engineTurn_complete (s := { s with pending := rest }) hrun hcnt]

/-- Settles O36: the half-rounds of `encCycle` and `decCycle`, with the subkeys looked up in the list of key words. -/
theorem engineCycleStepDoesOneCycle : Obligations.EngineCycleStepDoesOneCycle := by
  intro s rest hp hrun hcnt f keyA keyB
  have hA : keyA = subkeyA s.key := funext fun x => (subkeyA_eq_getD s.key x).symm
  have hB : keyB = subkeyB s.key := funext fun x => (subkeyB_eq_getD s.key x).symm
  rw [step_cycle hp hrun hcnt, hA, hB]
  refine ⟨fun hdir => ⟨_, rfl, rfl, ?_, ?_, ?_, toNat_sub_one hcnt⟩,
    fun hdir => ⟨_, rfl, rfl, ?_, ?_, ?_, toNat_sub_one hcnt⟩⟩
  all_goals
    simp only [cycleStep_v0, cycleStep_v1, cycleStep_sum, hdir]
    rfl

/-- Serialized and packed in little-endian order, the words are themselves again (R88). -/
theorem pack_serialize_le (w0 w1 : Word) :
    packLow (serialize .le w0 w1) = w0 ∧ packHigh (serialize .le w0 w1) = w1 :=
  ⟨append_extract w0, append_extract w1⟩

/-- Settles O37: a completion writes the packed serialization, which little-endian order leaves as the words and
big-endian order reverses. -/
theorem engineCompletionStepWritesTheOutputs : Obligations.EngineCompletionStepWritesTheOutputs := by
  intro s rest hp hrun hcnt
  rw [step_completion hp hrun hcnt, completionStep_eq]
  constructor <;> intro hord
  · obtain ⟨hlow, hhigh⟩ := pack_serialize_le s.v0 s.v1
    rw [hord, hlow, hhigh]
  · rw [hord]
    rfl

/-- Settles O38: no step of the engine is enabled while IDLE. -/
theorem theEngineRestsWhileIdle : Obligations.TheEngineRestsWhileIdle := by
  intro s hidle
  refine ⟨fun rest hp => ?_, fun hp => ?_⟩
  · rw [step_engine hp, engineTurn_idle (s := { s with pending := rest }) hidle]
  · rw [step_nil hp, engineTurn_idle hidle]

/-! ### The relation of SUM to CNT -/

/-- A cycle moves SUM by one DELTA as CNT moves by 1 (R187). -/
theorem cycleStep_sumTracks {s : State} (hs : s.SumTracks) : (cycleStep s).SumTracks := by
  intro hrun
  obtain ⟨henc, hdec⟩ := hs hrun
  refine ⟨fun hdir => ?_, fun hdir => ?_⟩ <;> rw [cycleStep_dir] at hdir
  · have hcycle : (cycleStep s).sum = s.sum + delta := by rw [cycleStep_sum, hdir]; rfl
    rw [hcycle, henc hdir, cycleStep_actCycles, cycleStep_cnt, sub_sub_eq_add_sub, add_sub_right_comm, mul_add,
      BitVec.mul_one]
  · have hcycle : (cycleStep s).sum = s.sum - delta := by rw [cycleStep_sum, hdir]; rfl
    rw [hcycle, hdec hdir, cycleStep_cnt, mul_sub, BitVec.mul_one]

/-- A block command starts with SUM at its initial value and CNT at ACT_CYCLES (R205). -/
theorem initialSum_sumTracks {s : State} (hsum : s.sum = initialSum s.dir s.actCycles) (hcnt : s.cnt = s.actCycles) :
    s.SumTracks := by
  refine fun _ => ⟨fun hdir => ?_, fun hdir => ?_⟩ <;> rw [hsum, hdir, hcnt]
  · rw [BitVec.sub_self, BitVec.mul_zero]
    rfl
  · rfl

/-- Settles O50: of the seven transitions only a cycle and a started block command leave FSM = RUN and touch the
registers of the relation. -/
theorem everyStepKeepsTheSumRelation : Obligations.EveryStepKeepsTheSumRelation := by
  intro s t hs h
  cases step_transition h with
  | idleTurn _ _ ht | dropped _ _ _ _ ht => rw [ht]; exact hs
  | cycle _ _ _ ht => rw [ht]; exact cycleStep_sumTracks (s := popTurn s) hs
  | completion _ _ _ ht | reset _ ht => rw [ht]; exact nofun
  | other _ hi ht => rw [(exec_other hi ht).1]; exact hs
  | accepted _ _ hi hfsm ht =>
    rcases exec_command_outcomes (s := popTurn s) hi hfsm ht with ⟨_, _, _, _, rfl⟩ | ⟨_, _, rfl⟩ |
      ⟨_, _, _, _, _, _, rfl⟩ | ⟨_, _, _, _, _, _, _, _, rfl⟩
    · exact hs
    · exact hs
    · simp [State.SumTracks, hfsm]
    · exact initialSum_sumTracks rfl rfl

/-! ### The result a run is going to have -/

/-- The datapath at the end of the run: the cycles that CNT still counts, done from the present datapath. No cycle
and no host access changes it while a command runs. -/
def State.resultToCome (s : State) : Datapath := cyclesOf s.dir s.key s.cnt.toNat (datapath s)

theorem resultToCome_of_cnt_zero {s : State} (h : s.cnt = 0#32) : s.resultToCome = datapath s := by
  simp [State.resultToCome, h]

theorem cycleStep_resultToCome {s : State} (h : s.cnt ≠ 0#32) : (cycleStep s).resultToCome = s.resultToCome := by
  have hpos : s.cnt.toNat ≠ 0 := fun h0 => h (BitVec.eq_of_toNat_eq h0)
  calc (cycleStep s).resultToCome
      = cyclesOf s.dir s.key (s.cnt - 1#32).toNat (cycleOf s.dir s.key (datapath s)) := rfl
    _ = cyclesOf s.dir s.key (s.cnt.toNat - 1 + 1) (datapath s) := by rw [toNat_sub_one h, cyclesOf_succ]
    _ = s.resultToCome := by rw [Nat.sub_add_cancel (Nat.pos_of_ne_zero hpos)]; rfl

/-- At its start a block command is going to have the pure transform of its block (R187). -/
theorem transform_eq_resultToCome {s : State} (hcnt : s.cnt = s.actCycles)
    (hsum : s.sum = initialSum s.dir s.actCycles) :
    transform s.dir s.key (s.v0, s.v1) s.actCycles.toNat = (s.resultToCome.v0, s.resultToCome.v1) := by
  rw [transform_eq_cyclesOf, State.resultToCome, datapath, hcnt, hsum]

/-! ### A run with a silent host -/

/-- The run just before its completion, with nothing changed but the datapath and CNT. -/
def State.cyclesDone (s : State) : State :=
  { s with v0 := s.resultToCome.v0, v1 := s.resultToCome.v1, sum := s.resultToCome.sum, cnt := 0#32 }

theorem cyclesDone_of_cnt_zero {s : State} (h : s.cnt = 0#32) : s.cyclesDone = s := by
  rw [State.cyclesDone, resultToCome_of_cnt_zero h, ← h]
  rfl

theorem cycleStep_cyclesDone {s : State} (h : s.cnt ≠ 0#32) : (cycleStep s).cyclesDone = s.cyclesDone := by
  rw [State.cyclesDone, cycleStep_resultToCome h]
  rfl

/-- CNT steps of the engine do the cycles that are left, by induction on CNT (R184). -/
theorem runSteps_cyclesDone {n : Nat} {s : State} (hrun : s.fsm = .run) (hp : s.pending = [])
    (hn : s.cnt.toNat = n) : runSteps n s = .next s.cyclesDone := by
  induction n generalizing s with
  | zero => rw [runSteps_zero, cyclesDone_of_cnt_zero (BitVec.eq_of_toNat_eq hn)]
  | succ n ih =>
    have hcnt : s.cnt ≠ 0#32 := fun h0 => by simp [h0] at hn
    have hpred : (cycleStep s).cnt.toNat = n := by rw [cycleStep_cnt, toNat_sub_one hcnt, hn, Nat.add_sub_cancel]
    rw [runSteps_succ_of_next (step_nil hp), engineTurn_cycle hrun hcnt, ih (s := cycleStep s) hrun hp hpred,
      cycleStep_cyclesDone hcnt]

/-- One more step completes the command (R185). -/
theorem runSteps_completion {s : State} (hrun : s.fsm = .run) (hp : s.pending = []) :
    runSteps (s.cnt.toNat + 1) s = .next (completionStep s.cyclesDone) := by
  have hlast : step s.cyclesDone = .next (completionStep s.cyclesDone) :=
    (step_nil (s := s.cyclesDone) hp).trans (congrArg _ (engineTurn_complete (s := s.cyclesDone) hrun rfl))
  exact (runSteps_add (runSteps_cyclesDone hrun hp rfl)).trans (runSteps_succ_of_next hlast)

/-! ### Block commands -/

theorem byteBlockBody_run {dir : Direction} {s : State} (hidle : s.fsm = .idle)
    (hrun : (byteBlockBody dir s).fsm = .run) :
    byteBlockBody dir s =
      startBlock dir (blockWord0 s.actOrder s.bbuf) (blockWord1 s.actOrder s.bbuf) (consumeBytes s) := by
  rcases byteBlockBody_cases dir s with ⟨_, e⟩ | ⟨_, _, e⟩ | ⟨_, _, e⟩
  · simp [e, hidle] at hrun
  · simp [e, hidle] at hrun
  · exact e

theorem wordBlockBody_run {dir : Direction} {s : State} (hidle : s.fsm = .idle)
    (hrun : (wordBlockBody dir s).fsm = .run) :
    wordBlockBody dir s = startBlock dir s.wbuf[0] s.wbuf[1] (consumeWords s) := by
  rcases wordBlockBody_cases dir s with ⟨_, e⟩ | ⟨_, _, e⟩ | ⟨_, _, e⟩
  · simp [e, hidle] at hrun
  · simp [e, hidle] at hrun
  · exact e

/-- The four block commands with their directions. -/
def blockCommands : List (Instr × Direction) :=
  [(.enc, .encipher), (.dec, .decipher), (.encw, .encipher), (.decw, .decipher)]

/-- A block command accepted while IDLE runs one of the two bodies, in its direction (R201 to R204). -/
theorem exec_blockCommand {i : Instr} {dir : Direction} {s : State} (hi : (i, dir) ∈ blockCommands)
    (hidle : s.fsm = .idle) :
    ∃ c, exec i s = .next (byteBlockBody dir (beginCommand c s)) ∨
      exec i s = .next (wordBlockBody dir (beginCommand c s)) := by
  simp only [blockCommands, List.mem_cons, Prod.mk.injEq, List.not_mem_nil, or_false] at hi
  rcases hi with ⟨rfl, rfl⟩ | ⟨rfl, rfl⟩ | ⟨rfl, rfl⟩ | ⟨rfl, rfl⟩
  · exact ⟨_, .inl (congrArg _ (issueCommand_idle hidle))⟩
  · exact ⟨_, .inl (congrArg _ (issueCommand_idle hidle))⟩
  · exact ⟨_, .inr (congrArg _ (issueCommand_idle hidle))⟩
  · exact ⟨_, .inr (congrArg _ (issueCommand_idle hidle))⟩

/-- A block command that leaves FSM = RUN has started its block, under the key and the cycle count of before (R205). -/
theorem exec_blockCommand_run {i : Instr} {dir : Direction} {s u : State} (hi : (i, dir) ∈ blockCommands)
    (hidle : s.fsm = .idle) (h : exec i s = .next u) (hrun : u.fsm = .run) :
    ∃ w0 w1 v, u = startBlock dir w0 w1 v ∧ v.key = s.key ∧ v.actCycles = s.actCycles := by
  obtain ⟨c, e | e⟩ := exec_blockCommand hi hidle <;> (rw [e] at h; cases h)
  · exact ⟨_, _, _, byteBlockBody_run (s := beginCommand c s) hidle hrun, rfl, rfl⟩
  · exact ⟨_, _, _, wordBlockBody_run (s := beginCommand c s) hidle hrun, rfl, rfl⟩

/-- Settles O43: ACT_CYCLES steps do the cycles, by induction on CNT, and the last completes. -/
theorem blockCommandsComputeTheTransform : Obligations.BlockCommandsComputeTheTransform := by
  intro i dir s u hi hidle h hrun hp
  obtain ⟨w0, w1, v, rfl, hkey, hcycles⟩ := exec_blockCommand_run hi hidle h hrun
  rw [← hkey, ← hcycles]
  have htransform := transform_eq_resultToCome (s := startBlock dir w0 w1 v) rfl rfl
  exact ⟨_, runSteps_completion hrun hp, htransform.symm, rfl⟩

/-! ### A run between the host's accesses -/

/-- `t` is later in the same run than `s`: it is going to have the same result, in the same byte order, and the outputs
are still those of before. -/
structure State.SameRun (s t : State) : Prop where
  fsm : t.fsm = .run
  resultToCome : t.resultToCome = s.resultToCome
  actOrder : t.actOrder = s.actOrder
  outW0 : t.outW0 = s.outW0
  outW1 : t.outW1 = s.outW1
  outB0 : t.outB0 = s.outB0
  outB1 : t.outB1 = s.outB1

theorem State.SameRun.refl {s : State} (h : s.fsm = .run) : s.SameRun s :=
  ⟨h, rfl, rfl, rfl, rfl, rfl, rfl⟩

theorem State.SameRun.trans {s t u : State} (h : s.SameRun t) (h' : t.SameRun u) : s.SameRun u :=
  ⟨h'.fsm, h'.resultToCome.trans h.resultToCome, h'.actOrder.trans h.actOrder, h'.outW0.trans h.outW0,
    h'.outW1.trans h.outW1, h'.outB0.trans h.outB0, h'.outB1.trans h.outB1⟩

theorem step_cycle_sameRun {s : State} {rest : List Turn} (hp : s.pending = .engine :: rest) (hrun : s.fsm = .run)
    (hcnt : s.cnt ≠ 0#32) :
    ∃ t, step s = .next t ∧ s.SameRun t ∧ t.cnt.toNat = s.cnt.toNat - 1 ∧ t.pending = rest :=
  ⟨_, step_cycle hp hrun hcnt,
    ⟨hrun, cycleStep_resultToCome (s := { s with pending := rest }) hcnt, rfl, rfl, rfl, rfl, rfl⟩,
    toNat_sub_one hcnt, rfl⟩

/-- A host access leaves the run and its count alone (R97, R325). -/
theorem step_access_sameRun {s : State} {a : BusAccess} {rest : List Turn} (hp : s.pending = .access a :: rest)
    (ha : a.defined = true) (hrun : s.fsm = .run) :
    ∃ t, step s = .next t ∧ s.SameRun t ∧ t.cnt = s.cnt ∧ t.pending = rest := by
  obtain ⟨i, hi⟩ := (decodeAccess_ok_iff a).2 ha
  obtain ⟨t, ht, hframe⟩ := hostAccessesLeaveARunAlone i { s with pending := rest } hrun
  refine ⟨t, (step_access hp hi).trans ht, ?_⟩
  rw [hframe]
  exact ⟨⟨hrun, rfl, rfl, rfl, rfl, rfl, rfl⟩, rfl, rfl⟩

/-- Any schedule without a reset, and with no more engine turns than CNT counts, stays in the run; by induction on the
schedule. -/
theorem runSteps_sameRun {l rest : List Turn} {s : State} (hrun : s.fsm = .run)
    (hdefined : ∀ a, Turn.access a ∈ l → a.defined = true) (hreset : Turn.reset ∉ l)
    (hcount : l.count Turn.engine ≤ s.cnt.toNat) (hp : s.pending = l ++ rest) :
    ∃ u, runSteps l.length s = .next u ∧ s.SameRun u ∧ u.cnt.toNat = s.cnt.toNat - l.count Turn.engine ∧
      u.pending = rest := by
  induction l generalizing s with
  | nil => exact ⟨s, rfl, .refl hrun, rfl, hp⟩
  | cons turn l ih =>
    have hdefined' : ∀ a, Turn.access a ∈ l → a.defined = true :=
      fun a ha => hdefined a (List.mem_cons_of_mem _ ha)
    have hreset' : Turn.reset ∉ l := fun h => hreset (List.mem_cons_of_mem _ h)
    cases turn with
    | reset => exact absurd List.mem_cons_self hreset
    | access a =>
      have hother : Turn.access a ≠ Turn.engine := nofun
      rw [List.count_cons_of_ne hother] at hcount ⊢
      obtain ⟨t, ht, hsame, hcnt, hpt⟩ := step_access_sameRun hp (hdefined a List.mem_cons_self) hrun
      obtain ⟨u, hu, hsame', hcnt', hpu⟩ := ih hsame.fsm hdefined' hreset' (hcnt ▸ hcount) hpt
      exact ⟨u, (runSteps_succ_of_next ht).trans hu, hsame.trans hsame', hcnt ▸ hcnt', hpu⟩
    | engine =>
      rw [List.count_cons_self] at hcount ⊢
      have hcnt : s.cnt ≠ 0#32 := fun h0 => by simp [h0] at hcount
      obtain ⟨t, ht, hsame, hpred, hpt⟩ := step_cycle_sameRun hp hrun hcnt
      obtain ⟨u, hu, hsame', hcnt', hpu⟩ := ih hsame.fsm hdefined' hreset' (by omega) hpt
      exact ⟨u, (runSteps_succ_of_next ht).trans hu, hsame.trans hsame', by omega, hpu⟩

/-- The host recovers the serialized bytes from their packing (R88, R257). -/
theorem outputBytes_of_pack {s : State} {b : Vector Byte 8} (hlow : s.outB0 = packLow b)
    (hhigh : s.outB1 = packHigh b) : outputBytes s = b := by
  obtain ⟨h0, h1, h2, h3⟩ := extract_append b[3] b[2] b[1] b[0]
  obtain ⟨h4, h5, h6, h7⟩ := extract_append b[7] b[6] b[5] b[4]
  simp only [outputBytes, hlow, hhigh, packLow, packHigh, h0, h1, h2, h3, h4, h5, h6, h7]
  ext i hi
  interval_cases i <;> rfl

/-- Settles O44: the schedule stays in the run and uses up CNT, so the next engine turn completes, with the result that
was to come at the start. -/
theorem theResultIsTheSameUnderEverySchedule : Obligations.TheResultIsTheSameUnderEverySchedule := by
  intro s l rest hrun hcnt hsum hdefined hreset hcount hp
  obtain ⟨u, hu, hsame, hcntu, hpu⟩ := runSteps_sameRun hrun hdefined hreset (by rw [hcount, hcnt]) hp
  have hzero : u.cnt = 0#32 := BitVec.eq_of_toNat_eq (by rw [hcntu, hcount, hcnt, Nat.sub_self]; rfl)
  have hlast : runSteps 1 u = .next (completionStep { u with pending := rest }) :=
    runSteps_succ_of_next (step_completion hpu hsame.fsm hzero)
  refine ⟨u, _, hu, hsame.fsm, hsame.outW0, hsame.outW1, hsame.outB0, hsame.outB1, (runSteps_add hu).trans hlast,
    rfl, rfl, rfl, ?_, ?_⟩
  · rw [transform_eq_resultToCome hcnt hsum, ← hsame.resultToCome, resultToCome_of_cnt_zero hzero]
    rfl
  · rw [← hsame.actOrder]
    exact outputBytes_of_pack rfl rfl

end Sys2Proof.Machine
end

section
/-! PROOFS of the block-cipher statements (spec/42_block_cipher.md): what ENC, DEC, ENCW and DECW answer when they start
a block and when they fail, and a whole block command from its pushes to its completion. -/

namespace Sys2Proof.Machine

/-! ### The four commands, accepted -/

/-- The command on bytes in each direction: ENC and DEC. -/
def byteCommand : Direction → Instr
  | .encipher => .enc
  | .decipher => .dec

/-- The command on words in each direction: ENCW and DECW. -/
def wordCommand : Direction → Instr
  | .encipher => .encw
  | .decipher => .decw

/-- The command word of ENC and DEC (R201, R202). -/
def byteCommandWord : Direction → Word
  | .encipher => 3#32
  | .decipher => 4#32

/-- The command word of ENCW and DECW (R203, R204). -/
def wordCommandWord : Direction → Word
  | .encipher => 5#32
  | .decipher => 6#32

theorem exec_byteCommand_idle (dir : Direction) {s : State} (h : s.fsm = .idle) :
    exec (byteCommand dir) s = .next (byteBlockBody dir (beginCommand (byteCommandWord dir) s)) := by
  cases dir <;> exact congrArg _ (issueCommand_idle h)

theorem exec_wordCommand_idle (dir : Direction) {s : State} (h : s.fsm = .idle) :
    exec (wordCommand dir) s = .next (wordBlockBody dir (beginCommand (wordCommandWord dir) s)) := by
  cases dir <;> exact congrArg _ (issueCommand_idle h)

/-! ### The outcomes of ENC and DEC -/

theorem exec_byteCommand_noKey (dir : Direction) {s : State} (hidle : s.fsm = .idle) (hkey : s.cfgValid = false) :
    exec (byteCommand dir) s =
      .next (raiseErr .noKey (consumeBytes (beginCommand (byteCommandWord dir) s))) := by
  rw [exec_byteCommand_idle dir hidle]
  simpa [hkey] using byteBlockBody_cases dir (beginCommand (byteCommandWord dir) s)

theorem exec_byteCommand_wrongLength (dir : Direction) {s : State} (hidle : s.fsm = .idle)
    (hkey : s.cfgValid = true) (hlen : s.bcount ≠ 8#8) :
    exec (byteCommand dir) s =
      .next (raiseErr .invalidBlockLength (consumeBytes (beginCommand (byteCommandWord dir) s))) := by
  rw [exec_byteCommand_idle dir hidle]
  simpa [hkey, hlen] using byteBlockBody_cases dir (beginCommand (byteCommandWord dir) s)

theorem exec_byteCommand_starts (dir : Direction) {s : State} (hidle : s.fsm = .idle)
    (hkey : s.cfgValid = true) (hlen : s.bcount = 8#8) :
    exec (byteCommand dir) s =
      .next (startBlock dir (blockWord0 s.actOrder s.bbuf) (blockWord1 s.actOrder s.bbuf)
        (consumeBytes (beginCommand (byteCommandWord dir) s))) := by
  rw [exec_byteCommand_idle dir hidle]
  simpa [hkey, hlen] using byteBlockBody_cases dir (beginCommand (byteCommandWord dir) s)

/-! ### The outcomes of ENCW and DECW -/

theorem exec_wordCommand_noKey (dir : Direction) {s : State} (hidle : s.fsm = .idle) (hkey : s.cfgValid = false) :
    exec (wordCommand dir) s =
      .next (raiseErr .noKey (consumeWords (beginCommand (wordCommandWord dir) s))) := by
  rw [exec_wordCommand_idle dir hidle]
  simpa [hkey] using wordBlockBody_cases dir (beginCommand (wordCommandWord dir) s)

theorem exec_wordCommand_wrongLength (dir : Direction) {s : State} (hidle : s.fsm = .idle)
    (hkey : s.cfgValid = true) (hlen : s.wcount ≠ 2#8) :
    exec (wordCommand dir) s =
      .next (raiseErr .invalidBlockWords (consumeWords (beginCommand (wordCommandWord dir) s))) := by
  rw [exec_wordCommand_idle dir hidle]
  simpa [hkey, hlen] using wordBlockBody_cases dir (beginCommand (wordCommandWord dir) s)

theorem exec_wordCommand_starts (dir : Direction) {s : State} (hidle : s.fsm = .idle)
    (hkey : s.cfgValid = true) (hlen : s.wcount = 2#8) :
    exec (wordCommand dir) s =
      .next (startBlock dir s.wbuf[0] s.wbuf[1] (consumeWords (beginCommand (wordCommandWord dir) s))) := by
  rw [exec_wordCommand_idle dir hidle]
  simpa [hkey, hlen] using wordBlockBody_cases dir (beginCommand (wordCommandWord dir) s)

/-! ### The statements about acceptance -/

/-- Settles O32: the block is read in ACT_ORDER, and DEC starts from DELTA × ACT_CYCLES (R180). -/
theorem byteBlockCommandsStartTheEngine : Obligations.ByteBlockCommandsStartTheEngine := by
  intro s hidle hkey hlen
  have henc := exec_byteCommand_starts .encipher hidle hkey hlen
  have hdec := exec_byteCommand_starts .decipher hidle hkey hlen
  rw [ofNat_delta_mul_toNat]
  refine ⟨fun hord => ?_, fun hord => ?_, fun hord => ?_, fun hord => ?_⟩ <;> rw [hord] at henc hdec
  · exact henc
  · exact henc
  · exact hdec
  · exact hdec

/-- Settles O33: the words start the engine as they were pushed, and DECW starts from DELTA × ACT_CYCLES (R180). -/
theorem wordBlockCommandsStartTheEngine : Obligations.WordBlockCommandsStartTheEngine := by
  intro s hidle hkey hlen
  rw [ofNat_delta_mul_toNat]
  exact ⟨exec_wordCommand_starts .encipher hidle hkey hlen, exec_wordCommand_starts .decipher hidle hkey hlen⟩

/-- Settles O34: the configuration is looked at before the length, and each failure consumes the command's buffer. -/
theorem blockCommandFailuresAreReported : Obligations.BlockCommandFailuresAreReported := by
  intro s hidle
  refine ⟨fun hkey => ⟨?_, ?_, ?_, ?_⟩, fun hkey hlen => ⟨?_, ?_⟩, fun hkey hlen => ⟨?_, ?_⟩⟩
  · exact exec_byteCommand_noKey .encipher hidle hkey
  · exact exec_byteCommand_noKey .decipher hidle hkey
  · exact exec_wordCommand_noKey .encipher hidle hkey
  · exact exec_wordCommand_noKey .decipher hidle hkey
  · exact exec_byteCommand_wrongLength .encipher hidle hkey hlen
  · exact exec_byteCommand_wrongLength .decipher hidle hkey hlen
  · exact exec_wordCommand_wrongLength .encipher hidle hkey hlen
  · exact exec_wordCommand_wrongLength .decipher hidle hkey hlen

/-! ### Directions that undo one another -/

/-- The other direction. -/
def Direction.opposite : Direction → Direction
  | .encipher => .decipher
  | .decipher => .encipher

/-- R182, for both directions. -/
theorem transform_opposite (dir : Direction) (key : Vector Word 4) (block : Word × Word) (n : Nat) :
    transform dir.opposite key (transform dir key block n) n = block := by
  cases dir with
  | encipher => exact decipher_encipher key block n
  | decipher => exact encipher_decipher key block n

/-! ### Blocks of bytes -/

/-- The block of words that eight bytes are (R86). `blockWords_eq_blockOf` ties it to the operands of ENC and DEC. -/
def blockOf (ord : ByteOrder) (p : Vector Byte 8) : Word × Word :=
  (wordOf ord p[0] p[1] p[2] p[3], wordOf ord p[4] p[5] p[6] p[7])

theorem blockWords_eq_blockOf (ord : ByteOrder) {b : Vector Byte 16} {p : Vector Byte 8}
    (h : ∀ (i : Nat) (hi : i < 8), b[i] = p[i]) : (blockWord0 ord b, blockWord1 ord b) = blockOf ord p := by
  have h0 : blockWord0 ord b = (blockOf ord p).1 := by
    rw [blockWord0, h 0 (by decide), h 1 (by decide), h 2 (by decide), h 3 (by decide), blockOf]
  have h1 : blockWord1 ord b = (blockOf ord p).2 := by
    rw [blockWord1, h 4 (by decide), h 5 (by decide), h 6 (by decide), h 7 (by decide), blockOf]
  rw [h0, h1]

theorem blockOf_serialize (ord : ByteOrder) (block : Word × Word) :
    blockOf ord (serialize ord block.1 block.2) = block := by
  cases ord <;> exact Prod.ext (append_extract block.1) (append_extract block.2)

theorem serialize_blockOf (ord : ByteOrder) (p : Vector Byte 8) :
    serialize ord (blockOf ord p).1 (blockOf ord p).2 = p := by
  simp only [serialize, blockOf, bytesOf_wordOf]
  ext i hi
  interval_cases i <;> rfl

/-! ### From the start of a block to its completion -/

theorem engineTurn_setPending (s : State) (l : List Turn) :
    engineTurn { s with pending := l } = { engineTurn s with pending := l } := by
  rcases engineTurn_cases s with ⟨hfsm, e⟩ | ⟨hfsm, hcnt, e⟩ | ⟨hfsm, hcnt, e⟩ <;> rw [e]
  · exact engineTurn_idle hfsm
  · exact engineTurn_cycle hfsm hcnt
  · exact engineTurn_complete hfsm hcnt

/-- Engine turns that are listed are those that a silent host gives (log entry 2). -/
theorem runSteps_engineTurns (n : Nat) (s : State) :
    runSteps n { s with pending := engineTurns n } = runSteps n { s with pending := [] } := by
  induction n generalizing s with
  | zero => rfl
  | succ n ih =>
    have hlisted : step { s with pending := engineTurns (n + 1) } =
        .next { engineTurn s with pending := engineTurns n } :=
      (step_engine (rest := engineTurns n) rfl).trans (congrArg _ (engineTurn_setPending s _))
    have hsilent : step { s with pending := [] } = .next { engineTurn s with pending := [] } :=
      (step_nil rfl).trans (congrArg _ (engineTurn_setPending s _))
    rw [runSteps_succ_of_next hlisted, runSteps_succ_of_next hsilent]
    exact ih (engineTurn s)

/-- A block command has gone from `s` to its completion in `t`: the outputs hold `result`, in words and in bytes, and
the machine is idle under the configuration, and with the buffer counts, of before. -/
structure State.BlockDone (s t : State) (result : Word × Word) : Prop where
  fsm : t.fsm = .idle
  done : t.done = true
  err : t.err = false
  key : t.key = s.key
  actCycles : t.actCycles = s.actCycles
  actOrder : t.actOrder = s.actOrder
  cfgValid : t.cfgValid = s.cfgValid
  bcount : t.bcount = s.bcount
  wcount : t.wcount = s.wcount
  words : (t.outW0, t.outW1) = result
  bytes : outputBytes t = serialize s.actOrder t.outW0 t.outW1

/-- A started block is transformed and completed by ACT_CYCLES + 1 engine turns (R184, R185). -/
theorem runSteps_startBlock (dir : Direction) (w0 w1 : Word) {s : State} {n : Nat} (hn : n = s.actCycles.toNat + 1)
    (hp : s.pending = engineTurns n) :
    ∃ t, runSteps n (startBlock dir w0 w1 s) = .next t ∧
      s.BlockDone t (transform dir s.key (w0, w1) s.actCycles.toNat) := by
  have hlisted : startBlock dir w0 w1 s = { startBlock dir w0 w1 s with pending := engineTurns n } := by
    rw [← hp]
    rfl
  have hrun := runSteps_completion (s := { startBlock dir w0 w1 s with pending := [] }) rfl rfl
  have hresult := transform_eq_resultToCome (s := { startBlock dir w0 w1 s with pending := [] }) rfl rfl
  refine ⟨completionStep (State.cyclesDone { startBlock dir w0 w1 s with pending := [] }), ?_,
    ⟨rfl, rfl, rfl, rfl, rfl, rfl, rfl, rfl, rfl, hresult.symm, outputBytes_of_pack rfl rfl⟩⟩
  rw [hlisted, runSteps_engineTurns, hn]
  exact hrun

/-! ### Whole block commands -/

/-- Eight pushes into an empty byte buffer (R120, R252). -/
theorem runSteps_pushBlock {s : State} {p : Vector Byte 8} {rest : List Turn} (hempty : s.bcount = 0#8)
    (hp : s.pending = host (pushB p.toList) ++ rest) :
    ∃ b, runSteps 8 s = .next { s with bbuf := b, bcount := 8#8, pending := rest } ∧
      ∀ (i : Nat) (hi : i < 8), b[i] = p[i] := by
  obtain ⟨t, hrun, ht, hcount, hcells⟩ := pushbFillsTheByteBuffer s p.toList rest hempty hp
  rw [Vector.length_toList] at hrun hcount
  have hlen : t.bcount = 8#8 := BitVec.eq_of_toNat_eq hcount
  rw [hlen] at ht
  refine ⟨t.bbuf, hrun.trans (congrArg _ ht), fun i hi => ?_⟩
  simp [hcells i (by omega), hi]

/-- Two pushes into an empty word buffer (R120, R254). -/
theorem runSteps_pushWords {s : State} {w0 w1 : Word} {rest : List Turn} (hempty : s.wcount = 0#8)
    (hp : s.pending = host (pushW [w0, w1]) ++ rest) :
    ∃ b, runSteps 2 s = .next { s with wbuf := b, wcount := 2#8, pending := rest } ∧ b[0] = w0 ∧ b[1] = w1 := by
  obtain ⟨t, hrun, ht, hcount, hcells⟩ := pushwFillsTheWordBuffer s [w0, w1] rest hempty hp
  have hlen : t.wcount = 2#8 := BitVec.eq_of_toNat_eq hcount
  rw [hlen] at ht
  exact ⟨t.wbuf, hrun.trans (congrArg _ ht), hcells 0 (by decide), hcells 1 (by decide)⟩

theorem step_byteCommand {dir : Direction} {s : State} {rest : List Turn}
    (hp : s.pending = .access (issue (byteCommand dir)) :: rest) (hidle : s.fsm = .idle) (hkey : s.cfgValid = true)
    (hlen : s.bcount = 8#8) :
    step s = .next (startBlock dir (blockWord0 s.actOrder s.bbuf) (blockWord1 s.actOrder s.bbuf)
      (consumeBytes (beginCommand (byteCommandWord dir) { s with pending := rest }))) := by
  have hwf : (byteCommand dir).wf = true := by cases dir <;> rfl
  rw [issuingAnInstructionRunsIt s _ rest hwf hp]
  exact exec_byteCommand_starts dir (s := { s with pending := rest }) hidle hkey hlen

theorem step_wordCommand {dir : Direction} {s : State} {rest : List Turn}
    (hp : s.pending = .access (issue (wordCommand dir)) :: rest) (hidle : s.fsm = .idle) (hkey : s.cfgValid = true)
    (hlen : s.wcount = 2#8) :
    step s = .next (startBlock dir s.wbuf[0] s.wbuf[1]
      (consumeWords (beginCommand (wordCommandWord dir) { s with pending := rest }))) := by
  have hwf : (wordCommand dir).wf = true := by cases dir <;> rfl
  rw [issuingAnInstructionRunsIt s _ rest hwf hp]
  exact exec_wordCommand_starts dir (s := { s with pending := rest }) hidle hkey hlen

/-- ENC or DEC from an empty byte buffer: eight pushes, the command, and the engine's turns (R200 to R202). -/
theorem runSteps_byteBlock (dir : Direction) (p : Vector Byte 8) {s : State} (hidle : s.fsm = .idle)
    (hkey : s.cfgValid = true) (hempty : s.bcount = 0#8) {n : Nat} (hn : n = s.actCycles.toNat + 1) :
    ∃ t, runSteps (9 + n) { s with pending := host (byteBlockOps (byteCommand dir) p) ++ engineTurns n } = .next t ∧
      s.BlockDone t (transform dir s.key (blockOf s.actOrder p) s.actCycles.toNat) := by
  obtain ⟨b, hpush, hb⟩ := runSteps_pushBlock (p := p)
    (s := { s with pending := host (byteBlockOps (byteCommand dir) p) ++ engineTurns n })
    (rest := .access (issue (byteCommand dir)) :: engineTurns n) hempty
    (by simp [byteBlockOps, host])
  have hstart := step_byteCommand (dir := dir) (s := { s with
    bbuf := b, bcount := 8#8, pending := .access (issue (byteCommand dir)) :: engineTurns n })
    rfl hidle hkey rfl
  obtain ⟨t, hrun, ht⟩ := runSteps_startBlock dir (blockWord0 s.actOrder b) (blockWord1 s.actOrder b)
    (s := consumeBytes (beginCommand (byteCommandWord dir) { s with
      bbuf := b, bcount := 8#8, pending := engineTurns n })) hn rfl
  refine ⟨t, ?_, ?_⟩
  · rw [Nat.add_right_comm 8 1 n, Nat.add_assoc 8, runSteps_add hpush, runSteps_succ_of_next hstart]
    exact hrun
  · rw [blockWords_eq_blockOf _ hb] at ht
    exact { ht with bcount := ht.bcount.trans hempty.symm }

/-- ENCW or DECW from an empty word buffer: two pushes, the command, and the engine's turns (R200, R203, R204). -/
theorem runSteps_wordBlock (dir : Direction) (w0 w1 : Word) {s : State} (hidle : s.fsm = .idle)
    (hkey : s.cfgValid = true) (hempty : s.wcount = 0#8) {n : Nat} (hn : n = s.actCycles.toNat + 1) :
    ∃ t, runSteps (3 + n)
        { s with pending := host (wordBlockOps (wordCommand dir) w0 w1) ++ engineTurns n } = .next t ∧
      s.BlockDone t (transform dir s.key (w0, w1) s.actCycles.toNat) := by
  obtain ⟨b, hpush, rfl, rfl⟩ := runSteps_pushWords (w0 := w0) (w1 := w1)
    (s := { s with pending := host (wordBlockOps (wordCommand dir) w0 w1) ++ engineTurns n })
    (rest := .access (issue (wordCommand dir)) :: engineTurns n) hempty rfl
  have hstart := step_wordCommand (dir := dir) (s := { s with
    wbuf := b, wcount := 2#8, pending := .access (issue (wordCommand dir)) :: engineTurns n })
    rfl hidle hkey rfl
  obtain ⟨t, hrun, ht⟩ := runSteps_startBlock dir b[0] b[1]
    (s := consumeWords (beginCommand (wordCommandWord dir) { s with
      wbuf := b, wcount := 2#8, pending := engineTurns n })) hn rfl
  refine ⟨t, ?_, { ht with wcount := ht.wcount.trans hempty.symm }⟩
  rw [Nat.add_right_comm 2 1 n, Nat.add_assoc 2, runSteps_add hpush, runSteps_succ_of_next hstart]
  exact hrun

/-! ### The round trip -/

section
variable {s t u : State} {dir : Direction} {block : Word × Word}
  (ht : s.BlockDone t (transform dir s.key block s.actCycles.toNat))
  (hu : t.BlockDone u (transform dir.opposite t.key (t.outW0, t.outW1) t.actCycles.toNat))
include ht hu

/-- The other direction, from the words of the first result, gives the first block back (R182, R208). -/
theorem words_of_opposite : (u.outW0, u.outW1) = block := by
  rw [hu.words, ht.key, ht.actCycles, ht.words, transform_opposite]

theorem outputBytes_of_opposite : outputBytes u = serialize s.actOrder block.1 block.2 := by
  rw [hu.bytes, ht.actOrder, ← words_of_opposite ht hu]

end

/-- The bytes that the host recovers are the words of the result. -/
theorem State.BlockDone.blockOf_outputBytes {s t : State} {result : Word × Word} (h : s.BlockDone t result) :
    blockOf t.actOrder (outputBytes t) = (t.outW0, t.outW1) := by
  rw [h.bytes, h.actOrder]
  exact blockOf_serialize s.actOrder (t.outW0, t.outW1)

theorem byteCommand_pair {c d : Instr} (h : (c, d) ∈ [(Instr.enc, Instr.dec), (.dec, .enc)]) :
    ∃ dir, c = byteCommand dir ∧ d = byteCommand dir.opposite := by
  simp only [List.mem_cons, Prod.mk.injEq, List.not_mem_nil, or_false] at h
  rcases h with ⟨rfl, rfl⟩ | ⟨rfl, rfl⟩
  · exact ⟨.encipher, rfl, rfl⟩
  · exact ⟨.decipher, rfl, rfl⟩

theorem wordCommand_pair {c d : Instr} (h : (c, d) ∈ [(Instr.encw, Instr.decw), (.decw, .encw)]) :
    ∃ dir, c = wordCommand dir ∧ d = wordCommand dir.opposite := by
  simp only [List.mem_cons, Prod.mk.injEq, List.not_mem_nil, or_false] at h
  rcases h with ⟨rfl, rfl⟩ | ⟨rfl, rfl⟩
  · exact ⟨.encipher, rfl, rfl⟩
  · exact ⟨.decipher, rfl, rfl⟩

/-- Settles O45: each command computes its transform and leaves the machine ready for the other, and the two transforms
undo one another. -/
theorem commandRoundTrip : Obligations.CommandRoundTrip := by
  intro s hidle hkey hbytes hwords n
  refine ⟨fun c d p hcd => ?_, fun c d w0 w1 hcd => ?_⟩
  · obtain ⟨dir, rfl, rfl⟩ := byteCommand_pair hcd
    obtain ⟨t, hrun, ht⟩ := runSteps_byteBlock dir p hidle hkey hbytes (n := n) rfl
    have hn : n = t.actCycles.toNat + 1 := congrArg (fun c : Word => c.toNat + 1) ht.actCycles.symm
    obtain ⟨u, hrun', hu⟩ := runSteps_byteBlock dir.opposite (outputBytes t) ht.fsm (ht.cfgValid.trans hkey)
      (ht.bcount.trans hbytes) hn
    rw [ht.blockOf_outputBytes] at hu
    have hback : outputBytes u = p := (outputBytes_of_opposite ht hu).trans (serialize_blockOf s.actOrder p)
    exact ⟨t, u, hrun, ht.fsm, ht.done, ht.err, hrun', hu.fsm, hu.done, hu.err, hback⟩
  · obtain ⟨dir, rfl, rfl⟩ := wordCommand_pair hcd
    obtain ⟨t, hrun, ht⟩ := runSteps_wordBlock dir w0 w1 hidle hkey hwords (n := n) rfl
    have hn : n = t.actCycles.toNat + 1 := congrArg (fun c : Word => c.toNat + 1) ht.actCycles.symm
    obtain ⟨u, hrun', hu⟩ := runSteps_wordBlock dir.opposite t.outW0 t.outW1 ht.fsm (ht.cfgValid.trans hkey)
      (ht.wcount.trans hwords) hn
    obtain ⟨hback0, hback1⟩ := Prod.ext_iff.1 (words_of_opposite ht hu)
    exact ⟨t, u, hrun, ht.fsm, ht.done, ht.err, hrun', hu.fsm, hu.done, hu.err, hback0, hback1⟩

end Sys2Proof.Machine
end

section
/-! PROOFS of the host-interface statements (spec/43_host_interface.md): what every read and write of a register does,
and what happens to a command word. -/

namespace Sys2Proof.Machine

/-! ### Register reads -/

/-- Settles O10: the arm of each read is `answerRead` of its register. -/
theorem registerReadsReturnTheRegister : Obligations.RegisterReadsReturnTheRegister :=
  fun _ => ⟨rfl, rfl, rfl, rfl, rfl, rfl, rfl⟩

/-- The fields of INFO (R51). -/
theorem infoWord_fields :
    infoWord.extractLsb' 0 8 = 16#8 ∧ infoWord.extractLsb' 8 8 = 8#8 ∧ infoWord.extractLsb' 16 16 = 0#16 := by
  decide

/-- Settles O11: the arm of each read is `answerRead` of 0 or of INFO. -/
theorem constantReadsReturnTheirConstant : Obligations.ConstantReadsReturnTheirConstant :=
  fun _ => ⟨rfl, rfl, rfl, rfl, rfl, rfl, infoWord, rfl, infoWord_fields⟩

/-! ### Register writes -/

theorem ByteOrder.bit_ofBit (b : Bool) : (ByteOrder.ofBit b).bit = BitVec.ofBool b := by
  cases b <;> rfl

/-- The two low bits of a word, put side by side, are the word without its bits 31:2. -/
theorem setWidth_low_bits (v : Word) :
    (BitVec.ofBool (v.getLsbD 1) ++ BitVec.ofBool (v.getLsbD 0)).setWidth 32 = v &&& 3#32 := by
  apply BitVec.eq_of_getLsbD_eq
  intro i hi
  rw [BitVec.getLsbD_setWidth, BitVec.getLsbD_append, BitVec.getLsbD_and]
  match i with
  | 0 => simp
  | 1 => simp
  | j + 2 => simp [BitVec.getLsbD_ofNat, Nat.testBit_succ]

/-- Settles O14: the two fields are the two low bits of the word, and a read puts them side by side again. -/
theorem configWriteSetsBothFields : Obligations.ConfigWriteSetsBothFields := by
  intro s v
  refine ⟨{ s with configOrder := .ofBit (v.getLsbD 0), configIrqEn := v.getLsbD 1 }, rfl, rfl, ?_⟩
  rw [exec, execRdConfig, configWord, ByteOrder.bit_ofBit, setWidth_low_bits]
  rfl

/-- Settles O15: CYCLES_IN is stored without a check, which is left to INIT (R146). -/
theorem cyclesInHoldsAnyValue : Obligations.CyclesInHoldsAnyValue :=
  fun _ _ => ⟨_, rfl, rfl, rfl⟩

/-- Settles O16: a field that is 0 where its W1C bit is 1 is the field AND NOT that bit, as `clearStatus` has it. -/
theorem statusWriteClearsDoneAndOvr : Obligations.StatusWriteClearsDoneAndOvr := by
  intro s v
  simp only [Bool.if_false_left, Bool.decide_eq_true, Bool.and_comm (!_)]
  rfl

/-- Settles O17: one `pushByte`. -/
theorem byteInPushesOneByte : Obligations.ByteInPushesOneByte :=
  fun s v => ⟨pushByte (v.extractLsb' 0 8) s, rfl, rfl, pushByte_bcount_toNat _ s, pushByte_bbuf_getElem _ s⟩

/-- Settles O18: one `pushWord`. -/
theorem wordInPushesOneWord : Obligations.WordInPushesOneWord :=
  fun s v => ⟨pushWord v s, rfl, rfl, pushWord_wcount_toNat v s, pushWord_wbuf_getElem v s⟩

/-- Settles O21: the arm of each of these writes answers the state it was given. -/
theorem readOnlyAndReservedWritesChangeNothing : Obligations.ReadOnlyAndReservedWritesChangeNothing :=
  fun _ _ => ⟨rfl, rfl, rfl, rfl, rfl, rfl, rfl, rfl, rfl, rfl⟩

/-! ### Command words and command rows -/

/-- Settles O22: the word encodes the row it decodes to (O2), and both issue it with the same body. -/
theorem writingACommandWordRunsItsCommand : Obligations.WritingACommandWordRunsItsCommand := by
  intro c s
  rw [exec_wrCmd, exec_of_encode_command (encode_decodeCommand c)]

/-- Settles O24: a row that brings a command word to CMD while FSM = RUN is `dropCommand`, which sets OVR. -/
theorem commandsWhileBusyAreDropped : Obligations.CommandsWhileBusyAreDropped :=
  fun _ _ hi hrun => exec_command_run hi hrun

/-- A command row accepted while IDLE records its word, and then its body runs (R241). -/
theorem exec_of_encode_command_idle {i : Instr} {c : Word} {s : State} (henc : encode i = .command c)
    (hidle : s.fsm = .idle) : exec i s = .next (commandBody i (beginCommand c s)) := by
  rw [exec_of_encode_command henc, issueCommand_idle hidle]

/-- Settles O35: after the word is recorded, the body empties both counts and reports success. -/
theorem clrbufEmptiesBothBuffers : Obligations.ClrbufEmptiesBothBuffers :=
  fun _ hidle => exec_of_encode_command_idle (c := 7#32) rfl hidle

/-- The word of the row OP=8..F, as a number (R116). -/
theorem op8F_word_eq_ofNat : ∀ op : BitVec 3, 0#28 ++ (1#1 ++ op) = BitVec.ofNat 32 (8 + op.toNat) := by
  decide

/-- The word with the fields RSV and OP, as a number (R110). -/
theorem append_eq_ofNat (rsv : BitVec 28) (op : BitVec 4) :
    rsv ++ op = BitVec.ofNat 32 (16 * rsv.toNat + op.toNat) := by
  have h := toNat_fields (rsv ++ op)
  rw [rsvField_append, opField_append] at h
  rw [← h, BitVec.ofNat_toNat, BitVec.setWidth_eq]

/-- Settles O26: the three rows have one body, which reports the error, and differ in the word alone. -/
theorem illegalRowsReportIllegalCommand : Obligations.IllegalRowsReportIllegalCommand := by
  intro s op3 op4 rsv hidle
  rw [← op8F_word_eq_ofNat, ← append_eq_ofNat]
  refine ⟨?_, ?_, ?_⟩
  · exact exec_of_encode_command_idle (c := 0#32) rfl hidle
  · exact exec_of_encode_command_idle rfl hidle
  · exact exec_of_encode_command_idle rfl hidle

/-! ### How an accepted command word ends -/

theorem initKbBody_cmdLast (s : State) : (initKbBody s).cmdLast = s.cmdLast := by
  rcases initKbBody_cases s with ⟨_, e⟩ | ⟨_, _, e⟩ | ⟨_, _, e⟩ <;> rw [e] <;> rfl

theorem initKwBody_cmdLast (s : State) : (initKwBody s).cmdLast = s.cmdLast := by
  rcases initKwBody_cases s with ⟨_, e⟩ | ⟨_, _, e⟩ | ⟨_, _, e⟩ <;> rw [e] <;> rfl

theorem byteBlockBody_cmdLast (dir : Direction) (s : State) : (byteBlockBody dir s).cmdLast = s.cmdLast := by
  rcases byteBlockBody_cases dir s with ⟨_, e⟩ | ⟨_, _, e⟩ | ⟨_, _, e⟩ <;> rw [e] <;> rfl

theorem wordBlockBody_cmdLast (dir : Direction) (s : State) : (wordBlockBody dir s).cmdLast = s.cmdLast := by
  rcases wordBlockBody_cases dir s with ⟨_, e⟩ | ⟨_, _, e⟩ | ⟨_, _, e⟩ <;> rw [e] <;> rfl

/-- CMD_LAST is written when the word is recorded, and by no body (R241). -/
theorem commandBody_cmdLast (i : Instr) (s : State) : (commandBody i s).cmdLast = s.cmdLast := by
  cases i with
  | initKb => exact initKbBody_cmdLast s
  | initKw => exact initKwBody_cmdLast s
  | enc | dec => exact byteBlockBody_cmdLast _ s
  | encw | decw => exact wordBlockBody_cmdLast _ s
  | _ => rfl

theorem exec_wrCmd_cmdLast {c : Word} {s t : State} (hidle : s.fsm = .idle) (h : exec (.wrCmd c) s = .next t) :
    t.cmdLast = c := by
  rw [exec_wrCmd, issueCommand_idle hidle] at h
  cases h
  exact commandBody_cmdLast _ _

/-- Settles O23, by the four ways in which an accepted command can end; CLRBUF and the two INITs succeed at once. -/
theorem acceptanceEndsInOneOfThreeWays : Obligations.AcceptanceEndsInOneOfThreeWays := by
  intro c s hidle
  obtain ⟨t, ht⟩ := exec_next (.wrCmd c) s
  refine ⟨t, ht, exec_wrCmd_cmdLast hidle ht, ?_⟩
  rcases exec_command_outcomes (i := .wrCmd c) rfl hidle ht with ⟨e, _, _, _, rfl⟩ | ⟨hclrbuf, _, rfl⟩ |
    ⟨hinit, _, _, _, _, _, rfl⟩ | ⟨hblock, _, _, _, _, _, _, _, rfl⟩
  · exact .inl ⟨rfl, rfl, e.code_ne_zero, hidle⟩
  · have hmem := List.mem_append_right [Instr.initKb, .initKw] (List.mem_singleton.2 hclrbuf)
    exact .inr (.inl ⟨rfl, rfl, rfl, hidle, hmem⟩)
  · have hmem := List.mem_append_left [Instr.clrbuf] hinit
    exact .inr (.inl ⟨rfl, rfl, rfl, hidle, hmem⟩)
  · exact .inr (.inr ⟨rfl, rfl, rfl, rfl, hblock⟩)

end Sys2Proof.Machine
end

section
/-! PROOFS of the exception statements (spec/60_exceptions.md): the error table of R282 and the buffer that each command
consumes, what a command that fails answers, and the codes that a step can write to ERRCODE. -/

namespace Sys2Proof.Machine

/-! ### The rows of the error table -/

/-- The errors that an accepted command can report (R282); what is no command of the table is an illegal word.
`commandBody_of_err` ties it to the model. -/
def reportableErrors : Instr → List CommandError
  | .initKb => [.invalidKeyLength, .invalidCycleCount]
  | .initKw => [.invalidKeyWords, .invalidCycleCount]
  | .enc | .dec => [.invalidBlockLength, .noKey]
  | .encw | .decw => [.invalidBlockWords, .noKey]
  | .clrbuf => []
  | _ => [.illegalCommand]

/-- The emptying of the buffer that a command consumes when it fails (R327). `commandBody_of_err` ties it to the
model. -/
def consumeOperands : Instr → State → State
  | .initKb | .enc | .dec => consumeBytes
  | .initKw | .encw | .decw => consumeWords
  | _ => id

theorem consumeOperands_eq (i : Instr) (s : State) :
    consumeOperands i s = { s with
      bcount := if i ∈ [Instr.initKb, .enc, .dec] then 0#8 else s.bcount
      wcount := if i ∈ [Instr.initKw, .encw, .decw] then 0#8 else s.wcount } := by
  cases i <;> rfl

/-- A word that is none of the seven commands can only be reported as illegal. -/
theorem reportableErrors_of_illegal {i : Instr}
    (h : i ∉ [Instr.initKb, .initKw, .enc, .dec, .encw, .decw, .clrbuf]) :
    reportableErrors i = [.illegalCommand] := by
  cases i with
  | initKb | initKw | enc | dec | encw | decw | clrbuf => simp at h
  | _ => rfl

/-- The rows of the table in the codes of R280. -/
theorem reportableErrors_codes :
    (∀ e ∈ reportableErrors .initKb, e.code = 1#4 ∨ e.code = 3#4) ∧
    (∀ e ∈ reportableErrors .initKw, e.code = 2#4 ∨ e.code = 3#4) ∧
    (∀ i ∈ [Instr.enc, .dec], ∀ e ∈ reportableErrors i, e.code = 4#4 ∨ e.code = 6#4) ∧
    (∀ i ∈ [Instr.encw, .decw], ∀ e ∈ reportableErrors i, e.code = 5#4 ∨ e.code = 6#4) := by
  decide

/-! ### Commands that fail -/

/-- A command body that leaves ERR = 1 has consumed its buffer and reported an error of its row, and done nothing
else (R285, R286). -/
theorem commandBody_of_err {i : Instr} {s : State} (h : (commandBody i s).err = true) :
    ∃ e ∈ reportableErrors i, commandBody i s = raiseErr e (consumeOperands i s) := by
  cases i with
  | initKb =>
    rcases initKbBody_cases s with ⟨_, e⟩ | ⟨_, _, e⟩ | ⟨_, _, e⟩
    · exact ⟨_, by simp [reportableErrors], e⟩
    · exact ⟨_, by simp [reportableErrors], e⟩
    · simp [commandBody, e] at h
  | initKw =>
    rcases initKwBody_cases s with ⟨_, e⟩ | ⟨_, _, e⟩ | ⟨_, _, e⟩
    · exact ⟨_, by simp [reportableErrors], e⟩
    · exact ⟨_, by simp [reportableErrors], e⟩
    · simp [commandBody, e] at h
  | enc | dec =>
    rcases byteBlockBody_cases _ s with ⟨_, e⟩ | ⟨_, _, e⟩ | ⟨_, _, e⟩
    · exact ⟨_, by simp [reportableErrors], e⟩
    · exact ⟨_, by simp [reportableErrors], e⟩
    · simp [commandBody, e] at h
  | encw | decw =>
    rcases wordBlockBody_cases _ s with ⟨_, e⟩ | ⟨_, _, e⟩ | ⟨_, _, e⟩
    · exact ⟨_, by simp [reportableErrors], e⟩
    · exact ⟨_, by simp [reportableErrors], e⟩
    · simp [commandBody, e] at h
  | clrbuf => simp [commandBody, clrbufBody] at h
  | _ => exact ⟨_, List.mem_singleton_self _, rfl⟩

/-- Every row that brings a command word to CMD while IDLE records the word and runs the body of its command (R241). -/
theorem exec_command_eq_commandBody {i : Instr} {s : State} (hi : issuesCommand i = true) (hidle : s.fsm = .idle) :
    ∃ c, exec i s = .next (commandBody (commandOf i) (beginCommand c s)) := by
  cases i with
  | wrCmd c => exact ⟨c, by rw [exec_wrCmd, issueCommand_idle hidle, commandOf]⟩
  | initKb | initKw | enc | dec | encw | decw | clrbuf | illegalOp0 | illegalOp8F _ | illegalRsv _ _ =>
    exact ⟨_, exec_of_encode_command_idle rfl hidle⟩
  | _ => simp [issuesCommand] at hi

/-- What an accepted command that fails answers. -/
theorem exec_command_of_err {i : Instr} {s t : State} (hi : issuesCommand i = true) (hidle : s.fsm = .idle)
    (h : exec i s = .next t) (herr : t.err = true) :
    ∃ c, ∃ e ∈ reportableErrors (commandOf i), t = raiseErr e (consumeOperands (commandOf i) (beginCommand c s)) := by
  obtain ⟨c, hc⟩ := exec_command_eq_commandBody hi hidle
  rw [hc] at h
  cases h
  exact ⟨c, commandBody_of_err herr⟩

/-- Settles O27: the recorded word, the consumed buffer and the report are all that the failing command writes. -/
theorem failedCommandsChangeOnlyTheReport : Obligations.FailedCommandsChangeOnlyTheReport := by
  intro i s t hi hidle h herr
  obtain ⟨c, e, -, rfl⟩ := exec_command_of_err hi hidle h herr
  rw [consumeOperands_eq]
  rfl

/-- Settles O28: ERRCODE is the code of an error in the command's row of the table. -/
theorem eachCommandReportsOnlyItsOwnErrors : Obligations.EachCommandReportsOnlyItsOwnErrors := by
  intro i s t hi hidle h herr
  obtain ⟨c, e, he, rfl⟩ := exec_command_of_err hi hidle h herr
  obtain ⟨hinitKb, hinitKw, hbytes, hwords⟩ := reportableErrors_codes
  rw [raiseErr_errcode]
  refine ⟨fun hrow => ?_, fun hrow => ?_, fun hrow => ?_, fun hrow => ?_, fun hrow => ?_, fun hrow => ?_⟩
  · exact hinitKb e (hrow ▸ he)
  · exact hinitKw e (hrow ▸ he)
  · exact hbytes _ hrow e he
  · exact hwords _ hrow e he
  · rw [hrow] at he
    exact absurd he List.not_mem_nil
  · rw [reportableErrors_of_illegal hrow, List.mem_singleton] at he
    rw [he, CommandError.code]

/-! ### Reserved codes -/

theorem CommandError.code_toNat_le (e : CommandError) : e.code.toNat ≤ 7 := by cases e <;> decide

/-- Settles O51: of the seven transitions only a reset and an accepted command write ERRCODE, and they write 0 or the
code of an error. -/
theorem reservedErrorCodesAreNeverWritten : Obligations.ReservedErrorCodesAreNeverWritten := by
  intro s t h
  cases step_transition h with
  | idleTurn _ _ ht | cycle _ _ _ ht | completion _ _ _ ht | dropped _ _ _ _ ht => exact .inl (by simp [ht])
  | reset _ ht => exact .inr (by rw [ht]; exact Nat.zero_le _)
  | other _ hi ht => exact .inl (by rw [(exec_other hi ht).1]; rfl)
  | accepted _ _ hi hfsm ht =>
    rcases exec_command_outcomes (s := popTurn s) hi hfsm ht with ⟨e, _, _, _, rfl⟩ | ⟨_, _, rfl⟩ |
      ⟨_, _, _, _, _, _, rfl⟩ | ⟨_, _, _, _, _, _, _, _, rfl⟩
    · exact .inr e.code_toNat_le
    · exact .inr (Nat.zero_le _)
    · exact .inr (Nat.zero_le _)
    · exact .inr (Nat.zero_le _)

end Sys2Proof.Machine
end

section
/-! PROOF of the bounded-run statement: what holds while a run is left to the engine, and where it ends
(spec/70_reset_and_hazards.md). -/

namespace Sys2Proof.Machine

/-- While CNT is not exhausted the engine only cycles (R184), by induction on the number of steps. -/
theorem runSteps_counting_down {j : Nat} {s : State} (hrun : s.fsm = .run) (hp : s.pending = [])
    (hj : j ≤ s.cnt.toNat) :
    ∃ t, runSteps j s = .next t ∧ t.fsm = .run ∧ t.cnt.toNat = s.cnt.toNat - j ∧ t.done = s.done := by
  induction j generalizing s with
  | zero => exact ⟨s, runSteps_zero s, hrun, rfl, rfl⟩
  | succ j ih =>
    have hcnt : s.cnt ≠ 0#32 := fun h0 => by simp [h0] at hj
    have hpred : (cycleStep s).cnt.toNat = s.cnt.toNat - 1 := toNat_sub_one hcnt
    have hstep : step s = .next (cycleStep s) := (step_nil hp).trans (congrArg _ (engineTurn_cycle hrun hcnt))
    obtain ⟨t, hsteps, hfsm, hleft, hdone⟩ := ih (s := cycleStep s) hrun hp (hpred ▸ Nat.le_sub_one_of_lt hj)
    exact ⟨t, (runSteps_succ_of_next hstep).trans hsteps, hfsm, by omega, hdone⟩

/-- Settles O46: the engine counts CNT down to 0, and the step after that completes. -/
theorem aRunEndsAfterCntPlusOneSteps : Obligations.ARunEndsAfterCntPlusOneSteps := fun _ hrun hp =>
  ⟨fun _ => runSteps_counting_down hrun hp, _, runSteps_completion hrun hp, rfl, rfl⟩

end Sys2Proof.Machine
end
